-- ==== Sys2Proof/Word.lean ====
section
/-! DEFINITION. The two word types of the CPU: a byte of data and a 16-bit bus address (00_scope.md R7, R9). -/

namespace Sys2Proof

/-- An 8-bit value: the registers A, X, Y, SP, P, every data byte and every colour byte. -/
abbrev Byte := BitVec 8

/-- A 16-bit value: IP, NIP and every address on the CPU's bus. -/
abbrev Word := BitVec 16

end Sys2Proof
end

