-- ==== Sys2Proof/Config.lean ====
section
/-! DEFINITION. What is fixed for one machine and left open by the spec: the OPEN parameters of 00_scope.md R7 as plain
data (log 1), the memory manager (20_memory.md R70, R76, log 6), and the free values, constants without a body (logs 5 and 7). The parameters are a field of State, so a claim about every state is a claim about every choice of them. -/

namespace Sys2Proof

/-- `DEC_V_RULE`: the three readings of V after a decimal ADC (42_arithmetic.md R210, D9). -/
inductive DecVRule where
  | binaryStep
  | unchanged
  | originalOperands
  deriving DecidableEq, Repr

/-- `HMOVE_DIR`: `right` is +1, `left` is -1 (49_tia_motion_collision.md R420, D24). -/
inductive HmoveDir where
  | right
  | left
  deriving DecidableEq, Repr

/-- A run of `size` consecutive addresses from `base`. -/
structure Region where
  base : Nat
  size : Nat
  deriving DecidableEq, Repr

/-- A set of addresses of the bus: all 65536 of them, or those of some regions. -/
inductive Backing where
  | all
  | regions (rs : List Region)
  deriving DecidableEq, Repr

/-- No address. -/
abbrev Backing.none : Backing := .regions []

/-- The memory manager, "a parameter of the model" (20_memory.md R70): where a read is answered from storage, where a
write goes to storage, and at which of the other addresses it answers from its script, as a test double does or a device
whose accesses have effects. It refuses every other access (R76; log 6). -/
structure Manager where
  readable : Backing
  writable : Backing
  scripted : Backing
  deriving DecidableEq, Repr

/-- The parameters of 00_scope.md R7 that a machine takes, under the names of that table, and the memory manager. The column captured in horizontal blank is a column, so it is below 160. -/
structure Config where
  stackPage          : Byte
  zpIndexWrap        : Bool
  ptrHiWrap          : Bool
  jmpIndPageBug      : Bool
  txsSetsNZ          : Bool
  decVRule           : DecVRule
  unassignedCycles   : Nat
  runStepLimit       : Option Nat
  hmoveDir           : HmoveDir
  hblankResetColumn  : Fin 160
  manager            : Manager
  deriving DecidableEq, Repr

/-- The CPU reset values of 00_scope.md R7 (`RESET_A` to `RESET_TICK`, D18, OPEN). -/
structure CpuReset where
  a    : Byte
  x    : Byte
  y    : Byte
  p    : Byte
  sp   : Byte
  ip   : Word
  tick : Nat
  deriving DecidableEq, Repr

/-- FREE VALUE: the n-th unspecified bit drawn in a run. Used for V after a decimal SBC, which takes "any value; a model
draws it" (42_arithmetic.md R212, 93_implementation_defined.md U1; log 7). -/
opaque Config.freeBit : Nat → Bool

/-- FREE VALUE: what the memory manager's storage holds, since launch, at an address nothing has written: "Unknown: a free value
per location, not zero" (20_memory.md R82, 92_eei_decisions.md D36; log 5). -/
opaque Config.launchByte : Nat → Byte

end Sys2Proof
end

