-- ==== Sys2Proof/Syntax.lean ====
section
/-! DEFINITION. The instructions: one constructor per row of spec/opcode_table.json, the
rows with an operand first. The field of
a two-byte instruction is its operand byte, that of a three-byte instruction its little-endian 16-bit operand (30_encoding.md
R101, R103, R104). The suffix names the addressing mode of R103; `fxHH` is the future-expansion opcode 0xHH (46_unassigned.md R310). -/

namespace Sys2Proof

/-- The 256 rows of the opcode map (30_encoding.md R106, R107, R108). -/
inductive Instr where
  | adcIzx (b : Byte)
  | adcZp (b : Byte)
  | adcImm (b : Byte)
  | adcAbs (w : Word)
  | adcIzy (b : Byte)
  | adcZpx (b : Byte)
  | adcAby (w : Word)
  | adcAbx (w : Word)
  | andIzx (b : Byte)
  | andZp (b : Byte)
  | andImm (b : Byte)
  | andAbs (w : Word)
  | andIzy (b : Byte)
  | andZpx (b : Byte)
  | andAby (w : Word)
  | andAbx (w : Word)
  | aslZp (b : Byte)
  | aslAbs (w : Word)
  | aslZpx (b : Byte)
  | aslAbx (w : Word)
  | bcc (disp : Byte)
  | bcs (disp : Byte)
  | beq (disp : Byte)
  | bitZp (b : Byte)
  | bitAbs (w : Word)
  | bmi (disp : Byte)
  | bne (disp : Byte)
  | bpl (disp : Byte)
  | bvc (disp : Byte)
  | bvs (disp : Byte)
  | cmpIzx (b : Byte)
  | cmpZp (b : Byte)
  | cmpImm (b : Byte)
  | cmpAbs (w : Word)
  | cmpIzy (b : Byte)
  | cmpZpx (b : Byte)
  | cmpAby (w : Word)
  | cmpAbx (w : Word)
  | cpxImm (b : Byte)
  | cpxZp (b : Byte)
  | cpxAbs (w : Word)
  | cpyImm (b : Byte)
  | cpyZp (b : Byte)
  | cpyAbs (w : Word)
  | decZp (b : Byte)
  | decAbs (w : Word)
  | decZpx (b : Byte)
  | decAbx (w : Word)
  | eorIzx (b : Byte)
  | eorZp (b : Byte)
  | eorImm (b : Byte)
  | eorAbs (w : Word)
  | eorIzy (b : Byte)
  | eorZpx (b : Byte)
  | eorAby (w : Word)
  | eorAbx (w : Word)
  | incZp (b : Byte)
  | incAbs (w : Word)
  | incZpx (b : Byte)
  | incAbx (w : Word)
  | jmpAbs (w : Word)
  | jmpInd (w : Word)
  | jsr (w : Word)
  | ldaIzx (b : Byte)
  | ldaZp (b : Byte)
  | ldaImm (b : Byte)
  | ldaAbs (w : Word)
  | ldaIzy (b : Byte)
  | ldaZpx (b : Byte)
  | ldaAby (w : Word)
  | ldaAbx (w : Word)
  | ldxImm (b : Byte)
  | ldxZp (b : Byte)
  | ldxAbs (w : Word)
  | ldxZpy (b : Byte)
  | ldxAby (w : Word)
  | ldyImm (b : Byte)
  | ldyZp (b : Byte)
  | ldyAbs (w : Word)
  | ldyZpx (b : Byte)
  | ldyAbx (w : Word)
  | lsrZp (b : Byte)
  | lsrAbs (w : Word)
  | lsrZpx (b : Byte)
  | lsrAbx (w : Word)
  | oraIzx (b : Byte)
  | oraZp (b : Byte)
  | oraImm (b : Byte)
  | oraAbs (w : Word)
  | oraIzy (b : Byte)
  | oraZpx (b : Byte)
  | oraAby (w : Word)
  | oraAbx (w : Word)
  | rolZp (b : Byte)
  | rolAbs (w : Word)
  | rolZpx (b : Byte)
  | rolAbx (w : Word)
  | rorZp (b : Byte)
  | rorAbs (w : Word)
  | rorZpx (b : Byte)
  | rorAbx (w : Word)
  | sbcIzx (b : Byte)
  | sbcZp (b : Byte)
  | sbcImm (b : Byte)
  | sbcAbs (w : Word)
  | sbcIzy (b : Byte)
  | sbcZpx (b : Byte)
  | sbcAby (w : Word)
  | sbcAbx (w : Word)
  | staIzx (b : Byte)
  | staZp (b : Byte)
  | staAbs (w : Word)
  | staIzy (b : Byte)
  | staZpx (b : Byte)
  | staAby (w : Word)
  | staAbx (w : Word)
  | stxZp (b : Byte)
  | stxAbs (w : Word)
  | stxZpy (b : Byte)
  | styZp (b : Byte)
  | styAbs (w : Word)
  | styZpx (b : Byte)
  | aslAcc
  | brk
  | clc
  | cld
  | cli
  | clv
  | dex
  | dey
  | inx
  | iny
  | lsrAcc
  | nop
  | pha
  | php
  | pla
  | plp
  | rolAcc
  | rorAcc
  | rti
  | rts
  | sec
  | sed
  | sei
  | tax
  | tay
  | tsx
  | txa
  | txs
  | tya
  | fx02
  | fx03
  | fx04
  | fx07
  | fx0B
  | fx0C
  | fx0F
  | fx12
  | fx13
  | fx14
  | fx17
  | fx1A
  | fx1B
  | fx1C
  | fx1F
  | fx22
  | fx23
  | fx27
  | fx2B
  | fx2F
  | fx32
  | fx33
  | fx34
  | fx37
  | fx3A
  | fx3B
  | fx3C
  | fx3F
  | fx42
  | fx43
  | fx44
  | fx47
  | fx4B
  | fx4F
  | fx52
  | fx53
  | fx54
  | fx57
  | fx5A
  | fx5B
  | fx5C
  | fx5F
  | fx62
  | fx63
  | fx64
  | fx67
  | fx6B
  | fx6F
  | fx72
  | fx73
  | fx74
  | fx77
  | fx7A
  | fx7B
  | fx7C
  | fx7F
  | fx80
  | fx82
  | fx83
  | fx87
  | fx89
  | fx8B
  | fx8F
  | fx92
  | fx93
  | fx97
  | fx9B
  | fx9C
  | fx9E
  | fx9F
  | fxA3
  | fxA7
  | fxAB
  | fxAF
  | fxB2
  | fxB3
  | fxB7
  | fxBB
  | fxBF
  | fxC2
  | fxC3
  | fxC7
  | fxCB
  | fxCF
  | fxD2
  | fxD3
  | fxD4
  | fxD7
  | fxDA
  | fxDB
  | fxDC
  | fxDF
  | fxE2
  | fxE3
  | fxE7
  | fxEB
  | fxEF
  | fxF2
  | fxF3
  | fxF4
  | fxF7
  | fxFA
  | fxFB
  | fxFC
  | fxFF
  deriving DecidableEq, Repr

end Sys2Proof
end

