-- ==== Sys2Proof/WellFormed.lean ====
section
/-! DEFINITION. Well-formedness of the terms a caller hands to the machine. An instruction has nothing to check: "Every
value of every operand byte is legal for every assigned opcode" (30_encoding.md R109) and the types of Syntax.lean hold
no other operand. A configuration is checked: the memory manager's regions lie in the 65536 addresses of the bus (20_memory.md
R70, R71) and are not empty, and a step costs at least one cycle, since TICK counts cycles (10_state.md R24; log 15). -/

namespace Sys2Proof

/-- Every instruction term is well-formed (30_encoding.md R109). -/
def Instr.wellFormed (_ : Instr) : Bool := true

/-- A region inside the 16-bit address space, with at least one address. -/
def Region.wellFormed (r : Region) : Bool := 0 < r.size && r.base + r.size ≤ 65536

/-- A backing that names regions of the address space only. -/
def Backing.wellFormed : Backing → Bool
  | .all => true
  | .regions rs => rs.all Region.wellFormed

/-- A memory manager that names regions of the address space only. -/
def Manager.wellFormed (m : Manager) : Bool := m.readable.wellFormed && m.writable.wellFormed && m.scripted.wellFormed

/-- The checks on a configuration. -/
def Config.wellFormed (c : Config) : Bool := c.manager.wellFormed && 0 < c.unassignedCycles

end Sys2Proof
end

