-- ==== Sys2Proof/Decode.lean ====
section
/-! DEFINITION. Decoding and encoding (30_encoding.md). Decoding is a lookup of the opcode byte in a fixed table of 256
rows (R100, R110, 40_cpu_engine.md R151) that gives the instruction's format, hence its length; it never fails on an
opcode, only on bytes that end before the operand does. -/

namespace Sys2Proof

/-! ## Byte order -/

/-- The 16-bit quantity whose low byte comes first: `b1 + 256*b2` (30_encoding.md R104, 20_memory.md R72). -/
def wordOf (lo hi : Byte) : Word := hi ++ lo

/-- `lo(a)` (00_scope.md R10). -/
def lowByte (w : Word) : Byte := w.extractLsb' 0 8

/-- `hi(a)` and `page(a)` (00_scope.md R10). -/
def highByte (w : Word) : Byte := w.extractLsb' 8 8

/-! ## The table -/

/-- One row of the table: its format (R101) and the instruction its operand bytes give. -/
inductive Format where
  | f1 (i : Instr)
  | f2 (mk : Byte → Instr)
  | f3 (mk : Word → Instr)

/-- The encoded size in bytes (30_encoding.md R101, R110). -/
def Format.size : Format → Nat
  | .f1 _ => 1
  | .f2 _ => 2
  | .f3 _ => 3

/-- The grid of R107: one row per high nibble, one column per low nibble. -/
def opcodeGrid : Vector (Vector Format 16) 16 := #v[
  #v[.f1 .brk, .f2 .oraIzx, .f1 .fx02, .f1 .fx03, .f1 .fx04, .f2 .oraZp, .f2 .aslZp, .f1 .fx07,
     .f1 .php, .f2 .oraImm, .f1 .aslAcc, .f1 .fx0B, .f1 .fx0C, .f3 .oraAbs, .f3 .aslAbs, .f1 .fx0F],
  #v[.f2 .bpl, .f2 .oraIzy, .f1 .fx12, .f1 .fx13, .f1 .fx14, .f2 .oraZpx, .f2 .aslZpx, .f1 .fx17,
     .f1 .clc, .f3 .oraAby, .f1 .fx1A, .f1 .fx1B, .f1 .fx1C, .f3 .oraAbx, .f3 .aslAbx, .f1 .fx1F],
  #v[.f3 .jsr, .f2 .andIzx, .f1 .fx22, .f1 .fx23, .f2 .bitZp, .f2 .andZp, .f2 .rolZp, .f1 .fx27,
     .f1 .plp, .f2 .andImm, .f1 .rolAcc, .f1 .fx2B, .f3 .bitAbs, .f3 .andAbs, .f3 .rolAbs, .f1 .fx2F],
  #v[.f2 .bmi, .f2 .andIzy, .f1 .fx32, .f1 .fx33, .f1 .fx34, .f2 .andZpx, .f2 .rolZpx, .f1 .fx37,
     .f1 .sec, .f3 .andAby, .f1 .fx3A, .f1 .fx3B, .f1 .fx3C, .f3 .andAbx, .f3 .rolAbx, .f1 .fx3F],
  #v[.f1 .rti, .f2 .eorIzx, .f1 .fx42, .f1 .fx43, .f1 .fx44, .f2 .eorZp, .f2 .lsrZp, .f1 .fx47,
     .f1 .pha, .f2 .eorImm, .f1 .lsrAcc, .f1 .fx4B, .f3 .jmpAbs, .f3 .eorAbs, .f3 .lsrAbs, .f1 .fx4F],
  #v[.f2 .bvc, .f2 .eorIzy, .f1 .fx52, .f1 .fx53, .f1 .fx54, .f2 .eorZpx, .f2 .lsrZpx, .f1 .fx57,
     .f1 .cli, .f3 .eorAby, .f1 .fx5A, .f1 .fx5B, .f1 .fx5C, .f3 .eorAbx, .f3 .lsrAbx, .f1 .fx5F],
  #v[.f1 .rts, .f2 .adcIzx, .f1 .fx62, .f1 .fx63, .f1 .fx64, .f2 .adcZp, .f2 .rorZp, .f1 .fx67,
     .f1 .pla, .f2 .adcImm, .f1 .rorAcc, .f1 .fx6B, .f3 .jmpInd, .f3 .adcAbs, .f3 .rorAbs, .f1 .fx6F],
  #v[.f2 .bvs, .f2 .adcIzy, .f1 .fx72, .f1 .fx73, .f1 .fx74, .f2 .adcZpx, .f2 .rorZpx, .f1 .fx77,
     .f1 .sei, .f3 .adcAby, .f1 .fx7A, .f1 .fx7B, .f1 .fx7C, .f3 .adcAbx, .f3 .rorAbx, .f1 .fx7F],
  #v[.f1 .fx80, .f2 .staIzx, .f1 .fx82, .f1 .fx83, .f2 .styZp, .f2 .staZp, .f2 .stxZp, .f1 .fx87,
     .f1 .dey, .f1 .fx89, .f1 .txa, .f1 .fx8B, .f3 .styAbs, .f3 .staAbs, .f3 .stxAbs, .f1 .fx8F],
  #v[.f2 .bcc, .f2 .staIzy, .f1 .fx92, .f1 .fx93, .f2 .styZpx, .f2 .staZpx, .f2 .stxZpy, .f1 .fx97,
     .f1 .tya, .f3 .staAby, .f1 .txs, .f1 .fx9B, .f1 .fx9C, .f3 .staAbx, .f1 .fx9E, .f1 .fx9F],
  #v[.f2 .ldyImm, .f2 .ldaIzx, .f2 .ldxImm, .f1 .fxA3, .f2 .ldyZp, .f2 .ldaZp, .f2 .ldxZp, .f1 .fxA7,
     .f1 .tay, .f2 .ldaImm, .f1 .tax, .f1 .fxAB, .f3 .ldyAbs, .f3 .ldaAbs, .f3 .ldxAbs, .f1 .fxAF],
  #v[.f2 .bcs, .f2 .ldaIzy, .f1 .fxB2, .f1 .fxB3, .f2 .ldyZpx, .f2 .ldaZpx, .f2 .ldxZpy, .f1 .fxB7,
     .f1 .clv, .f3 .ldaAby, .f1 .tsx, .f1 .fxBB, .f3 .ldyAbx, .f3 .ldaAbx, .f3 .ldxAby, .f1 .fxBF],
  #v[.f2 .cpyImm, .f2 .cmpIzx, .f1 .fxC2, .f1 .fxC3, .f2 .cpyZp, .f2 .cmpZp, .f2 .decZp, .f1 .fxC7,
     .f1 .iny, .f2 .cmpImm, .f1 .dex, .f1 .fxCB, .f3 .cpyAbs, .f3 .cmpAbs, .f3 .decAbs, .f1 .fxCF],
  #v[.f2 .bne, .f2 .cmpIzy, .f1 .fxD2, .f1 .fxD3, .f1 .fxD4, .f2 .cmpZpx, .f2 .decZpx, .f1 .fxD7,
     .f1 .cld, .f3 .cmpAby, .f1 .fxDA, .f1 .fxDB, .f1 .fxDC, .f3 .cmpAbx, .f3 .decAbx, .f1 .fxDF],
  #v[.f2 .cpxImm, .f2 .sbcIzx, .f1 .fxE2, .f1 .fxE3, .f2 .cpxZp, .f2 .sbcZp, .f2 .incZp, .f1 .fxE7,
     .f1 .inx, .f2 .sbcImm, .f1 .nop, .f1 .fxEB, .f3 .cpxAbs, .f3 .sbcAbs, .f3 .incAbs, .f1 .fxEF],
  #v[.f2 .beq, .f2 .sbcIzy, .f1 .fxF2, .f1 .fxF3, .f1 .fxF4, .f2 .sbcZpx, .f2 .incZpx, .f1 .fxF7,
     .f1 .sed, .f3 .sbcAby, .f1 .fxFA, .f1 .fxFB, .f1 .fxFC, .f3 .sbcAbx, .f3 .incAbx, .f1 .fxFF]]

/-- The descriptor of an opcode: `TABLE[op]` (40_cpu_engine.md R151). -/
def formatOf (op : Byte) : Format :=
  (opcodeGrid[op.toNat / 16]'(by have := op.isLt; omega))[op.toNat % 16]'(by omega)

/-! ## The decoder -/

/-- Why bytes are no instruction: there are none, or they end before the operand of the opcode does. -/
inductive DecodeError where
  | noBytes
  | missingOperand (op : Byte)
  deriving DecidableEq, Repr

/-- The instruction at the front of a list of bytes, and the bytes after it (30_encoding.md R100, R101, R104). -/
def decode : List Byte → Except DecodeError (Instr × List Byte)
  | [] => .error .noBytes
  | op :: rest =>
    match formatOf op with
    | .f1 i => .ok (i, rest)
    | .f2 mk =>
      match rest with
      | b1 :: rest => .ok (mk b1, rest)
      | [] => .error (.missingOperand op)
    | .f3 mk =>
      match rest with
      | b1 :: b2 :: rest => .ok (mk (wordOf b1 b2), rest)
      | _ => .error (.missingOperand op)

/-- The decoder on an instruction whose bits are numbered as spec/opcode_table.json numbers them: its first byte is bits
7..0 of `w`, the next bits 15..8; bits from `nbits` up are 0. -/
def decodeTableWord (nbits w : Nat) : Option Instr :=
  let v := w % 2 ^ nbits
  match decode [BitVec.ofNat 8 v, BitVec.ofNat 8 (v / 256), BitVec.ofNat 8 (v / 65536)] with
  | .ok (i, _) => some i
  | .error _ => none

/-! ## The encoder -/

/-- The operand bytes of a three-byte instruction, low byte first (30_encoding.md R101). -/
def wordBytes (w : Word) : List Byte := [lowByte w, highByte w]

/-- The bytes of an instruction, written from the encodings of 30_encoding.md R106 and R108. -/
def encode : Instr → List Byte
  | .adcIzx b => [0x61, b]
  | .adcZp b => [0x65, b]
  | .adcImm b => [0x69, b]
  | .adcAbs w => 0x6D :: wordBytes w
  | .adcIzy b => [0x71, b]
  | .adcZpx b => [0x75, b]
  | .adcAby w => 0x79 :: wordBytes w
  | .adcAbx w => 0x7D :: wordBytes w
  | .andIzx b => [0x21, b]
  | .andZp b => [0x25, b]
  | .andImm b => [0x29, b]
  | .andAbs w => 0x2D :: wordBytes w
  | .andIzy b => [0x31, b]
  | .andZpx b => [0x35, b]
  | .andAby w => 0x39 :: wordBytes w
  | .andAbx w => 0x3D :: wordBytes w
  | .aslZp b => [0x06, b]
  | .aslAcc => [0x0A]
  | .aslAbs w => 0x0E :: wordBytes w
  | .aslZpx b => [0x16, b]
  | .aslAbx w => 0x1E :: wordBytes w
  | .bcc b => [0x90, b]
  | .bcs b => [0xB0, b]
  | .beq b => [0xF0, b]
  | .bitZp b => [0x24, b]
  | .bitAbs w => 0x2C :: wordBytes w
  | .bmi b => [0x30, b]
  | .bne b => [0xD0, b]
  | .bpl b => [0x10, b]
  | .brk => [0x00]
  | .bvc b => [0x50, b]
  | .bvs b => [0x70, b]
  | .clc => [0x18]
  | .cld => [0xD8]
  | .cli => [0x58]
  | .clv => [0xB8]
  | .cmpIzx b => [0xC1, b]
  | .cmpZp b => [0xC5, b]
  | .cmpImm b => [0xC9, b]
  | .cmpAbs w => 0xCD :: wordBytes w
  | .cmpIzy b => [0xD1, b]
  | .cmpZpx b => [0xD5, b]
  | .cmpAby w => 0xD9 :: wordBytes w
  | .cmpAbx w => 0xDD :: wordBytes w
  | .cpxImm b => [0xE0, b]
  | .cpxZp b => [0xE4, b]
  | .cpxAbs w => 0xEC :: wordBytes w
  | .cpyImm b => [0xC0, b]
  | .cpyZp b => [0xC4, b]
  | .cpyAbs w => 0xCC :: wordBytes w
  | .decZp b => [0xC6, b]
  | .decAbs w => 0xCE :: wordBytes w
  | .decZpx b => [0xD6, b]
  | .decAbx w => 0xDE :: wordBytes w
  | .dex => [0xCA]
  | .dey => [0x88]
  | .eorIzx b => [0x41, b]
  | .eorZp b => [0x45, b]
  | .eorImm b => [0x49, b]
  | .eorAbs w => 0x4D :: wordBytes w
  | .eorIzy b => [0x51, b]
  | .eorZpx b => [0x55, b]
  | .eorAby w => 0x59 :: wordBytes w
  | .eorAbx w => 0x5D :: wordBytes w
  | .incZp b => [0xE6, b]
  | .incAbs w => 0xEE :: wordBytes w
  | .incZpx b => [0xF6, b]
  | .incAbx w => 0xFE :: wordBytes w
  | .inx => [0xE8]
  | .iny => [0xC8]
  | .jmpAbs w => 0x4C :: wordBytes w
  | .jmpInd w => 0x6C :: wordBytes w
  | .jsr w => 0x20 :: wordBytes w
  | .ldaIzx b => [0xA1, b]
  | .ldaZp b => [0xA5, b]
  | .ldaImm b => [0xA9, b]
  | .ldaAbs w => 0xAD :: wordBytes w
  | .ldaIzy b => [0xB1, b]
  | .ldaZpx b => [0xB5, b]
  | .ldaAby w => 0xB9 :: wordBytes w
  | .ldaAbx w => 0xBD :: wordBytes w
  | .ldxImm b => [0xA2, b]
  | .ldxZp b => [0xA6, b]
  | .ldxAbs w => 0xAE :: wordBytes w
  | .ldxZpy b => [0xB6, b]
  | .ldxAby w => 0xBE :: wordBytes w
  | .ldyImm b => [0xA0, b]
  | .ldyZp b => [0xA4, b]
  | .ldyAbs w => 0xAC :: wordBytes w
  | .ldyZpx b => [0xB4, b]
  | .ldyAbx w => 0xBC :: wordBytes w
  | .lsrZp b => [0x46, b]
  | .lsrAcc => [0x4A]
  | .lsrAbs w => 0x4E :: wordBytes w
  | .lsrZpx b => [0x56, b]
  | .lsrAbx w => 0x5E :: wordBytes w
  | .nop => [0xEA]
  | .oraIzx b => [0x01, b]
  | .oraZp b => [0x05, b]
  | .oraImm b => [0x09, b]
  | .oraAbs w => 0x0D :: wordBytes w
  | .oraIzy b => [0x11, b]
  | .oraZpx b => [0x15, b]
  | .oraAby w => 0x19 :: wordBytes w
  | .oraAbx w => 0x1D :: wordBytes w
  | .pha => [0x48]
  | .php => [0x08]
  | .pla => [0x68]
  | .plp => [0x28]
  | .rolZp b => [0x26, b]
  | .rolAcc => [0x2A]
  | .rolAbs w => 0x2E :: wordBytes w
  | .rolZpx b => [0x36, b]
  | .rolAbx w => 0x3E :: wordBytes w
  | .rorZp b => [0x66, b]
  | .rorAcc => [0x6A]
  | .rorAbs w => 0x6E :: wordBytes w
  | .rorZpx b => [0x76, b]
  | .rorAbx w => 0x7E :: wordBytes w
  | .rti => [0x40]
  | .rts => [0x60]
  | .sbcIzx b => [0xE1, b]
  | .sbcZp b => [0xE5, b]
  | .sbcImm b => [0xE9, b]
  | .sbcAbs w => 0xED :: wordBytes w
  | .sbcIzy b => [0xF1, b]
  | .sbcZpx b => [0xF5, b]
  | .sbcAby w => 0xF9 :: wordBytes w
  | .sbcAbx w => 0xFD :: wordBytes w
  | .sec => [0x38]
  | .sed => [0xF8]
  | .sei => [0x78]
  | .staIzx b => [0x81, b]
  | .staZp b => [0x85, b]
  | .staAbs w => 0x8D :: wordBytes w
  | .staIzy b => [0x91, b]
  | .staZpx b => [0x95, b]
  | .staAby w => 0x99 :: wordBytes w
  | .staAbx w => 0x9D :: wordBytes w
  | .stxZp b => [0x86, b]
  | .stxAbs w => 0x8E :: wordBytes w
  | .stxZpy b => [0x96, b]
  | .styZp b => [0x84, b]
  | .styAbs w => 0x8C :: wordBytes w
  | .styZpx b => [0x94, b]
  | .tax => [0xAA]
  | .tay => [0xA8]
  | .tsx => [0xBA]
  | .txa => [0x8A]
  | .txs => [0x9A]
  | .tya => [0x98]
  | .fx02 => [0x02]
  | .fx03 => [0x03]
  | .fx04 => [0x04]
  | .fx07 => [0x07]
  | .fx0B => [0x0B]
  | .fx0C => [0x0C]
  | .fx0F => [0x0F]
  | .fx12 => [0x12]
  | .fx13 => [0x13]
  | .fx14 => [0x14]
  | .fx17 => [0x17]
  | .fx1A => [0x1A]
  | .fx1B => [0x1B]
  | .fx1C => [0x1C]
  | .fx1F => [0x1F]
  | .fx22 => [0x22]
  | .fx23 => [0x23]
  | .fx27 => [0x27]
  | .fx2B => [0x2B]
  | .fx2F => [0x2F]
  | .fx32 => [0x32]
  | .fx33 => [0x33]
  | .fx34 => [0x34]
  | .fx37 => [0x37]
  | .fx3A => [0x3A]
  | .fx3B => [0x3B]
  | .fx3C => [0x3C]
  | .fx3F => [0x3F]
  | .fx42 => [0x42]
  | .fx43 => [0x43]
  | .fx44 => [0x44]
  | .fx47 => [0x47]
  | .fx4B => [0x4B]
  | .fx4F => [0x4F]
  | .fx52 => [0x52]
  | .fx53 => [0x53]
  | .fx54 => [0x54]
  | .fx57 => [0x57]
  | .fx5A => [0x5A]
  | .fx5B => [0x5B]
  | .fx5C => [0x5C]
  | .fx5F => [0x5F]
  | .fx62 => [0x62]
  | .fx63 => [0x63]
  | .fx64 => [0x64]
  | .fx67 => [0x67]
  | .fx6B => [0x6B]
  | .fx6F => [0x6F]
  | .fx72 => [0x72]
  | .fx73 => [0x73]
  | .fx74 => [0x74]
  | .fx77 => [0x77]
  | .fx7A => [0x7A]
  | .fx7B => [0x7B]
  | .fx7C => [0x7C]
  | .fx7F => [0x7F]
  | .fx80 => [0x80]
  | .fx82 => [0x82]
  | .fx83 => [0x83]
  | .fx87 => [0x87]
  | .fx89 => [0x89]
  | .fx8B => [0x8B]
  | .fx8F => [0x8F]
  | .fx92 => [0x92]
  | .fx93 => [0x93]
  | .fx97 => [0x97]
  | .fx9B => [0x9B]
  | .fx9C => [0x9C]
  | .fx9E => [0x9E]
  | .fx9F => [0x9F]
  | .fxA3 => [0xA3]
  | .fxA7 => [0xA7]
  | .fxAB => [0xAB]
  | .fxAF => [0xAF]
  | .fxB2 => [0xB2]
  | .fxB3 => [0xB3]
  | .fxB7 => [0xB7]
  | .fxBB => [0xBB]
  | .fxBF => [0xBF]
  | .fxC2 => [0xC2]
  | .fxC3 => [0xC3]
  | .fxC7 => [0xC7]
  | .fxCB => [0xCB]
  | .fxCF => [0xCF]
  | .fxD2 => [0xD2]
  | .fxD3 => [0xD3]
  | .fxD4 => [0xD4]
  | .fxD7 => [0xD7]
  | .fxDA => [0xDA]
  | .fxDB => [0xDB]
  | .fxDC => [0xDC]
  | .fxDF => [0xDF]
  | .fxE2 => [0xE2]
  | .fxE3 => [0xE3]
  | .fxE7 => [0xE7]
  | .fxEB => [0xEB]
  | .fxEF => [0xEF]
  | .fxF2 => [0xF2]
  | .fxF3 => [0xF3]
  | .fxF4 => [0xF4]
  | .fxF7 => [0xF7]
  | .fxFA => [0xFA]
  | .fxFB => [0xFB]
  | .fxFC => [0xFC]
  | .fxFF => [0xFF]

/-! ## Names -/

/-- The mnemonic of an instruction's row, as spec/opcode_table.json spells it (10_state.md R29, 30_encoding.md R106, 46_unassigned.md R310). -/
def Instr.mnemonic : Instr → String
  | .adcIzx _ | .adcZp _ | .adcImm _ | .adcAbs _ | .adcIzy _ | .adcZpx _ | .adcAby _ | .adcAbx _ => "ADC"
  | .andIzx _ | .andZp _ | .andImm _ | .andAbs _ | .andIzy _ | .andZpx _ | .andAby _ | .andAbx _ => "AND"
  | .aslZp _ | .aslAcc | .aslAbs _ | .aslZpx _ | .aslAbx _ => "ASL"
  | .bcc _ => "BCC"
  | .bcs _ => "BCS"
  | .beq _ => "BEQ"
  | .bitZp _ | .bitAbs _ => "BIT"
  | .bmi _ => "BMI"
  | .bne _ => "BNE"
  | .bpl _ => "BPL"
  | .brk => "BRK"
  | .bvc _ => "BVC"
  | .bvs _ => "BVS"
  | .clc => "CLC"
  | .cld => "CLD"
  | .cli => "CLI"
  | .clv => "CLV"
  | .cmpIzx _ | .cmpZp _ | .cmpImm _ | .cmpAbs _ | .cmpIzy _ | .cmpZpx _ | .cmpAby _ | .cmpAbx _ => "CMP"
  | .cpxImm _ | .cpxZp _ | .cpxAbs _ => "CPX"
  | .cpyImm _ | .cpyZp _ | .cpyAbs _ => "CPY"
  | .decZp _ | .decAbs _ | .decZpx _ | .decAbx _ => "DEC"
  | .dex => "DEX"
  | .dey => "DEY"
  | .eorIzx _ | .eorZp _ | .eorImm _ | .eorAbs _ | .eorIzy _ | .eorZpx _ | .eorAby _ | .eorAbx _ => "EOR"
  | .incZp _ | .incAbs _ | .incZpx _ | .incAbx _ => "INC"
  | .inx => "INX"
  | .iny => "INY"
  | .jmpAbs _ | .jmpInd _ => "JMP"
  | .jsr _ => "JSR"
  | .ldaIzx _ | .ldaZp _ | .ldaImm _ | .ldaAbs _ | .ldaIzy _ | .ldaZpx _ | .ldaAby _ | .ldaAbx _ => "LDA"
  | .ldxImm _ | .ldxZp _ | .ldxAbs _ | .ldxZpy _ | .ldxAby _ => "LDX"
  | .ldyImm _ | .ldyZp _ | .ldyAbs _ | .ldyZpx _ | .ldyAbx _ => "LDY"
  | .lsrZp _ | .lsrAcc | .lsrAbs _ | .lsrZpx _ | .lsrAbx _ => "LSR"
  | .nop => "NOP"
  | .oraIzx _ | .oraZp _ | .oraImm _ | .oraAbs _ | .oraIzy _ | .oraZpx _ | .oraAby _ | .oraAbx _ => "ORA"
  | .pha => "PHA"
  | .php => "PHP"
  | .pla => "PLA"
  | .plp => "PLP"
  | .rolZp _ | .rolAcc | .rolAbs _ | .rolZpx _ | .rolAbx _ => "ROL"
  | .rorZp _ | .rorAcc | .rorAbs _ | .rorZpx _ | .rorAbx _ => "ROR"
  | .rti => "RTI"
  | .rts => "RTS"
  | .sbcIzx _ | .sbcZp _ | .sbcImm _ | .sbcAbs _ | .sbcIzy _ | .sbcZpx _ | .sbcAby _ | .sbcAbx _ => "SBC"
  | .sec => "SEC"
  | .sed => "SED"
  | .sei => "SEI"
  | .staIzx _ | .staZp _ | .staAbs _ | .staIzy _ | .staZpx _ | .staAby _ | .staAbx _ => "STA"
  | .stxZp _ | .stxAbs _ | .stxZpy _ => "STX"
  | .styZp _ | .styAbs _ | .styZpx _ => "STY"
  | .tax => "TAX"
  | .tay => "TAY"
  | .tsx => "TSX"
  | .txa => "TXA"
  | .txs => "TXS"
  | .tya => "TYA"
  | .fx02 => "FX02"
  | .fx03 => "FX03"
  | .fx04 => "FX04"
  | .fx07 => "FX07"
  | .fx0B => "FX0B"
  | .fx0C => "FX0C"
  | .fx0F => "FX0F"
  | .fx12 => "FX12"
  | .fx13 => "FX13"
  | .fx14 => "FX14"
  | .fx17 => "FX17"
  | .fx1A => "FX1A"
  | .fx1B => "FX1B"
  | .fx1C => "FX1C"
  | .fx1F => "FX1F"
  | .fx22 => "FX22"
  | .fx23 => "FX23"
  | .fx27 => "FX27"
  | .fx2B => "FX2B"
  | .fx2F => "FX2F"
  | .fx32 => "FX32"
  | .fx33 => "FX33"
  | .fx34 => "FX34"
  | .fx37 => "FX37"
  | .fx3A => "FX3A"
  | .fx3B => "FX3B"
  | .fx3C => "FX3C"
  | .fx3F => "FX3F"
  | .fx42 => "FX42"
  | .fx43 => "FX43"
  | .fx44 => "FX44"
  | .fx47 => "FX47"
  | .fx4B => "FX4B"
  | .fx4F => "FX4F"
  | .fx52 => "FX52"
  | .fx53 => "FX53"
  | .fx54 => "FX54"
  | .fx57 => "FX57"
  | .fx5A => "FX5A"
  | .fx5B => "FX5B"
  | .fx5C => "FX5C"
  | .fx5F => "FX5F"
  | .fx62 => "FX62"
  | .fx63 => "FX63"
  | .fx64 => "FX64"
  | .fx67 => "FX67"
  | .fx6B => "FX6B"
  | .fx6F => "FX6F"
  | .fx72 => "FX72"
  | .fx73 => "FX73"
  | .fx74 => "FX74"
  | .fx77 => "FX77"
  | .fx7A => "FX7A"
  | .fx7B => "FX7B"
  | .fx7C => "FX7C"
  | .fx7F => "FX7F"
  | .fx80 => "FX80"
  | .fx82 => "FX82"
  | .fx83 => "FX83"
  | .fx87 => "FX87"
  | .fx89 => "FX89"
  | .fx8B => "FX8B"
  | .fx8F => "FX8F"
  | .fx92 => "FX92"
  | .fx93 => "FX93"
  | .fx97 => "FX97"
  | .fx9B => "FX9B"
  | .fx9C => "FX9C"
  | .fx9E => "FX9E"
  | .fx9F => "FX9F"
  | .fxA3 => "FXA3"
  | .fxA7 => "FXA7"
  | .fxAB => "FXAB"
  | .fxAF => "FXAF"
  | .fxB2 => "FXB2"
  | .fxB3 => "FXB3"
  | .fxB7 => "FXB7"
  | .fxBB => "FXBB"
  | .fxBF => "FXBF"
  | .fxC2 => "FXC2"
  | .fxC3 => "FXC3"
  | .fxC7 => "FXC7"
  | .fxCB => "FXCB"
  | .fxCF => "FXCF"
  | .fxD2 => "FXD2"
  | .fxD3 => "FXD3"
  | .fxD4 => "FXD4"
  | .fxD7 => "FXD7"
  | .fxDA => "FXDA"
  | .fxDB => "FXDB"
  | .fxDC => "FXDC"
  | .fxDF => "FXDF"
  | .fxE2 => "FXE2"
  | .fxE3 => "FXE3"
  | .fxE7 => "FXE7"
  | .fxEB => "FXEB"
  | .fxEF => "FXEF"
  | .fxF2 => "FXF2"
  | .fxF3 => "FXF3"
  | .fxF4 => "FXF4"
  | .fxF7 => "FXF7"
  | .fxFA => "FXFA"
  | .fxFB => "FXFB"
  | .fxFC => "FXFC"
  | .fxFF => "FXFF"

end Sys2Proof
end

