-- ==== Sys2Proof/Machine/Defaults.lean ====
section
/-! DEFINITION. The values this hardware takes for the OPEN parameters, from the table of 00_scope.md R7, and the memory
manager of the reset state (20_memory.md R76, R79; log 6). -/

namespace Sys2Proof.Machine

/-- The default parameters of 00_scope.md R7, with a memory manager that backs every address. -/
def defaultConfig : Config where
  stackPage := 1
  zpIndexWrap := false
  ptrHiWrap := false
  jmpIndPageBug := false
  txsSetsNZ := true
  decVRule := .binaryStep
  unassignedCycles := 2
  runStepLimit := none
  hmoveDir := .right
  hblankResetColumn := 0
  manager := { readable := .all, writable := .all, scripted := .none }

/-- The CPU reset values of 00_scope.md R7 and 10_state.md R43 (D18). -/
def defaultCpuReset : CpuReset where
  a := 0
  x := 0
  y := 0
  p := 0x00
  sp := 0xFF
  ip := 0x0000
  tick := 0

/-- The default program image's memory manager: a single bank of 4096 bytes at origin 0; "every address outside
`[0, 4096)` raises `BusFault`" (20_memory.md R79). A platform's choice, not the reset state's. -/
def defaultCartridge : Manager :=
  { readable := .regions [⟨0, 4096⟩], writable := .regions [⟨0, 4096⟩], scripted := .none }

end Sys2Proof.Machine
end

