-- ==== Sys2Proof/Machine/State.lean ====
section
/-! DEFINITION. The state of the machine as plain data: both units' architectural state (10_state.md), the memory behind
the memory manager and its script (20_memory.md), and the model's own fields: the parameters, the caller's pending calls, the
units' outputs and the count of free values drawn (logs 1, 8, 9, 7). Also why a step can stop, and the state after reset. -/

namespace Sys2Proof.Machine

/-! ## The CPU unit -/

/-- ProcessorState (10_state.md R20 to R25). `nip` carries nothing between steps (R23, log 4). -/
structure Cpu where
  a    : Byte
  x    : Byte
  y    : Byte
  sp   : Byte
  p    : Byte
  ip   : Word
  nip  : Word
  tick : Nat
  deriving DecidableEq, Repr

/-! ## The TIA unit -/

/-- The values of `scale` and `spacing`: 1, 2, 4, 8 (10_state.md R35). -/
inductive Factor where
  | x1
  | x2
  | x4
  | x8
  deriving DecidableEq, Repr

/-- The values of `copies`: 1, 2, 3 (10_state.md R35). -/
inductive Copies where
  | one
  | two
  | three
  deriving DecidableEq, Repr

/-- One Sprite entity (10_state.md R35); `size` is its constant number of pattern bits, 8 for a player and 1 for a missile
or the ball. `hm` is the pending delta, a signed nibble (47_tia_registers.md R374). -/
structure Sprite (size : Nat) where
  x       : Fin 160
  hm      : BitVec 4
  bits    : BitVec size
  scale   : Factor
  copies  : Copies
  spacing : Factor
  mirror  : Bool
  delayed : Bool
  deriving DecidableEq, Repr

/-- The six collision objects (10_state.md R37). -/
inductive Obj where
  | pf
  | bl
  | p0
  | m0
  | p1
  | m1
  deriving DecidableEq, Repr

/-- The fifteen pairwise collision categories (10_state.md R37). -/
inductive Pair where
  | pfBl | pfP0 | pfM0 | pfP1 | pfM1
  | blP0 | blM0 | blP1 | blM1
  | p0M0 | p0P1 | p0M1
  | m0P1 | m0M1
  | p1M1
  deriving DecidableEq, Repr

/-- `collisionState`: the set of categories latched so far, one Bool for each (10_state.md R38). -/
structure Collisions where
  pfBl : Bool
  pfP0 : Bool
  pfM0 : Bool
  pfP1 : Bool
  pfM1 : Bool
  blP0 : Bool
  blM0 : Bool
  blP1 : Bool
  blM1 : Bool
  p0M0 : Bool
  p0P1 : Bool
  p0M1 : Bool
  m0P1 : Bool
  m0M1 : Bool
  p1M1 : Bool
  deriving DecidableEq, Repr

/-- The TIA unit's state (10_state.md R32 to R40). Bit i of `pf` is `pf[i]`, the block i of the left half. -/
structure Tia where
  colubk     : Byte
  colupf     : Byte
  colup0     : Byte
  colup1     : Byte
  pf         : BitVec 20
  mirror     : Bool
  score      : Bool
  pfPriority : Bool
  bl         : Sprite 1
  p0         : Sprite 8
  p1         : Sprite 8
  m0         : Sprite 1
  m1         : Sprite 1
  collisions : Collisions
  colorClock : Fin 228
  scanline   : Vector Byte 160
  deriving DecidableEq, Repr

/-! ## Memory, calls, outputs -/

/-- The storage behind the memory manager: the bytes written or loaded so far, addresses strictly rising (Machine/Ops.lean's
`Memory.wf`). What an address that is not listed reads as is `Memory.unlisted` (log 5). -/
abbrev Memory := List Host.Cell

/-- One transaction on the bus (20_memory.md R70, R71). -/
inductive Access where
  | read (addr : Word)
  | write (addr : Word) (value : Byte)
  deriving DecidableEq, Repr

/-- The address of a transaction. -/
def Access.addr : Access → Word
  | .read addr | .write addr _ => addr

/-- What a scripted memory manager answers to one transaction: the byte a read gets, of no use to a write, or a refusal
(20_memory.md R70, R76; log 6). -/
inductive Answer where
  | accepts (value : Byte)
  | refuses
  deriving DecidableEq, Repr

/-- The memory manager where it is scripted: its answers to come, the next one first, and the transactions they were given to
so far, the latest one first (log 6). -/
structure Bus where
  script : List Answer
  asked  : List Access
  deriving DecidableEq, Repr

/-- The ProcessorState as the platform copies it: the seven items that 10_state.md R28 lists, without NIP (log 4). -/
structure Snapshot where
  a    : Byte
  x    : Byte
  y    : Byte
  sp   : Byte
  p    : Byte
  ip   : Word
  tick : Nat
  deriving DecidableEq, Repr

/-- The names of the inspection interface (60_exceptions.md R462). -/
inductive Probe where
  | a | x | y | sp | ip
  | c | z | i | d | b | v | n
  | flags
  | m (addr : Word)
  deriving DecidableEq, Repr

/-- One call of the platform (00_scope.md R6, 92_eei_decisions.md D34). `continueRun` is a run-to-break in progress, with
the steps left before its limit; the caller's own call is `runToBreak`. `runToClock` takes 0..227 only (48 R382). -/
inductive Call where
  | cpuStep
  | runToBreak (start : Option Word)
  | continueRun (left : Option Nat)
  | nextClockTick
  | renderScanline
  | runToClock (target : Fin 228)
  | writeRegister (addr : Nat) (value : Byte)
  | readRegister (addr : Nat)
  | inspect (name : Probe)
  | snapshot
  | disassembleStep (addr : Word)
  deriving DecidableEq, Repr

/-- What a unit returned to its caller or printed; no unit reads it back (log 9). -/
inductive Event where
  /-- The diagnostic of a future-expansion opcode (46_unassigned.md R311). -/
  | diagnostic (op : Byte)
  /-- A run-to-break reached the break opcode (40_cpu_engine.md R152). -/
  | breakReached
  /-- A run-to-break made `RUN_STEP_LIMIT` steps (40_cpu_engine.md R152). -/
  | limitReached
  /-- What `nextClockTick` returned: scanline complete or not (48_tia_compositor.md R380). -/
  | ticked (scanlineComplete : Bool)
  /-- What `readRegister` returned (47_tia_registers.md R321). -/
  | registerRead (addr : Nat) (value : Byte)
  /-- What an inspection returned (60_exceptions.md R462). -/
  | inspected (name : Probe) (value : Nat)
  /-- A copy of the ProcessorState (10_state.md R28). -/
  | snapshot (copy : Snapshot)
  /-- The instruction `disassembleStep` read; its text is not modelled (60_exceptions.md R461, log 12). -/
  | disassembled (addr : Word) (i : Instr)
  deriving DecidableEq, Repr

/-- Why the machine stops with a fault. -/
inductive Fault where
  /-- The memory manager refused the access to `addr` (20_memory.md R76, 60_exceptions.md R450, R451). Raised by every
  fetch, operand, pointer, data and stack access, and by the peek of run-to-break: terminal, and the state after it is
  unspecified, so it carries none. Safe (log 10). Raised also by the "M" probe and the disassembly, for whose refused reads
  the spec gives no outcome: that they end the machine too is the model's choice (DESIGN CHOICE, safe, log 16). -/
  | busFault (addr : Word)
  deriving DecidableEq, Repr

/-- Why the machine refuses an instruction. -/
inductive Refusal where
  /-- Raised by an arm of `exec` whose instruction has no meaning yet; no arm does. Safe. -/
  | notModelled (mnemonic : String)
  deriving DecidableEq, Repr

/-- The machine. -/
structure State where
  cpu      : Cpu
  tia      : Tia
  mem      : Memory
  bus      : Bus
  cfg      : Config
  schedule : List Call
  events   : List Event
  draws    : Nat
  deriving DecidableEq, Repr

/-- What a step or an instruction answers. -/
abbrev Result := Host.Outcome State Fault Refusal

/-! ## Reset -/

/-- A sprite at reset: position, delta and pattern 0, scale, copies and spacing 1, flags false (10_state.md R43). -/
def Sprite.reset (size : Nat) : Sprite size where
  x := 0
  hm := 0
  bits := 0
  scale := .x1
  copies := .one
  spacing := .x1
  mirror := false
  delayed := false

/-- No category latched. -/
def Collisions.none : Collisions :=
  ⟨false, false, false, false, false, false, false, false, false, false, false, false, false, false, false⟩

/-- The TIA at reset (10_state.md R43, D31). -/
def Tia.reset : Tia where
  colubk := 0
  colupf := 0
  colup0 := 0
  colup1 := 0
  pf := 0
  mirror := false
  score := false
  pfPriority := false
  bl := Sprite.reset 1
  p0 := Sprite.reset 8
  p1 := Sprite.reset 8
  m0 := Sprite.reset 1
  m1 := Sprite.reset 1
  collisions := .none
  colorClock := 0
  scanline := Vector.replicate 160 0

/-- Creation of a machine from its OPEN parameters: the configuration, the CPU's and the TIA's reset values, the launch
memory and the memory manager's script (00_scope.md R7, 20_memory.md R70, R82, 70_reset_and_hazards.md R481). NIP is never read before it is written
(10_state.md R23); it starts at 0 (log 4). -/
def State.resetWith (cfg : Config) (r : CpuReset) (tia : Tia) (launch : Memory) (script : List Answer) :
    State where
  cpu := { a := r.a, x := r.x, y := r.y, sp := r.sp, p := r.p, ip := r.ip, nip := 0, tick := r.tick }
  tia := tia
  mem := launch
  bus := { script := script, asked := [] }
  cfg := cfg
  schedule := []
  events := []
  draws := 0

/-- The machine right after reset (10_state.md R43), nothing listed in memory and nothing scripted. -/
def State.reset : State := State.resetWith defaultConfig defaultCpuReset Tia.reset [] []

end Sys2Proof.Machine
end

