-- ==== Sys2Proof/Machine/Ops.lean ====
section
/-! DEFINITION. The named operations over memory and registers that every meaning is written with: memory as a canonical
list, the memory manager's two transactions (20_memory.md R70, R71, R76), the registers, the stack primitives
(40_cpu_engine.md R170, R171) and the frame of one instruction (R150). This hardware takes no exception: there is no trap
entry and no vector (60_exceptions.md R454), a refused access ends the run (R451), so the only shared operation of that
kind is the fault of `busRead` and `busWrite`. -/

namespace Sys2Proof.Machine

/-! ## Memory -/

/-- The canonical form: addresses strictly rising, all of them on the 16-bit bus. An unlisted address has no written byte,
so no listed byte can repeat it (log 5). -/
abbrev Memory.wf (m : Memory) : Prop := m.Pairwise (fun c d => c.1 < d.1) ∧ ∀ c ∈ m, c.1 < 65536

/-- The byte written or loaded at an address, if there is one. -/
def Memory.lookup : Memory → Nat → Option Byte
  | [], _ => none
  | (k, v) :: m, addr => if k = addr then some v else Memory.lookup m addr

/-- What an address that is not listed reads as: the free launch byte of that location (20_memory.md R82, log 5). -/
def Memory.unlisted (addr : Nat) : Byte := Config.launchByte addr

/-- The byte at an address. -/
def Memory.read (m : Memory) (addr : Nat) : Byte := (m.lookup addr).getD (Memory.unlisted addr)

/-- Memory after the byte `v` is written at `addr`: the list stays in canonical form. -/
def Memory.write : Memory → Nat → Byte → Memory
  | [], addr, v => [(addr, v)]
  | (k, w) :: m, addr, v =>
    if addr < k then (addr, v) :: (k, w) :: m
    else if addr = k then (addr, v) :: m
    else (k, w) :: Memory.write m addr v

/-! ## The memory manager -/

/-- Does a region hold the address? -/
def regionHolds (r : Region) (addr : Nat) : Bool := r.base ≤ addr && addr < r.base + r.size

/-- Is the address in the set? -/
def backs : Backing → Word → Bool
  | .all, _ => true
  | .regions rs, addr => rs.any fun r => regionHolds r addr.toNat

/-- Replace the storage behind the memory manager. -/
def State.withMem (m : Memory) (s : State) : State := { s with mem := m }

/-- Replace what the memory manager has of its script and has been asked. -/
def State.withBus (b : Bus) (s : State) : State := { s with bus := b }

/-- A transaction that storage does not answer: at a scripted address the next answer of the script, which is used up and the
transaction put on record; a refusal, or an answer the script does not have, or any other address, is a bus fault
(20_memory.md R70, R76; log 6). -/
def askScript (access : Access) (s : State) : Except Fault (Byte × State) :=
  if backs s.cfg.manager.scripted access.addr then
    match s.bus.script with
    | .accepts v :: rest => .ok (v, s.withBus { script := rest, asked := access :: s.bus.asked })
    | .refuses :: _ | [] => .error (.busFault access.addr)
  else .error (.busFault access.addr)

/-- `MemRead(addr, 1)` (20_memory.md R71, R76; 00_scope.md R10). A read from storage changes no state; what another read does
is the memory manager's (R75). -/
def busRead (addr : Word) (s : State) : Except Fault (Byte × State) :=
  if backs s.cfg.manager.readable addr then .ok (s.mem.read addr.toNat, s) else askScript (.read addr) s

/-- `MemWrite(addr, 1, v)` (20_memory.md R71, R76; 00_scope.md R10). A refused write has no effect. -/
def busWrite (addr : Word) (v : Byte) (s : State) : Except Fault State :=
  if backs s.cfg.manager.writable addr then .ok (s.withMem (s.mem.write addr.toNat v))
  else (askScript (.write addr v) s).map Prod.snd

/-- Two byte reads that make one 16-bit quantity, the low byte first (20_memory.md R72, R74). -/
def readPair (lo hi : Word) (s : State) : Except Fault (Word × State) := do
  let (l, s) ← busRead lo s
  let (h, s) ← busRead hi s
  .ok (wordOf l h, s)

/-! ## Registers -/

/-- The 8-bit registers that instructions name (10_state.md R20, R21). -/
inductive Reg where
  | a
  | x
  | y
  | sp
  deriving DecidableEq, Repr

/-- The value of a register. -/
def State.reg (r : Reg) (s : State) : Byte :=
  match r with
  | .a => s.cpu.a
  | .x => s.cpu.x
  | .y => s.cpu.y
  | .sp => s.cpu.sp

/-- `r <- v` (00_scope.md R10). -/
def State.setReg (r : Reg) (v : Byte) (s : State) : State :=
  match r with
  | .a => { s with cpu := { s.cpu with a := v } }
  | .x => { s with cpu := { s.cpu with x := v } }
  | .y => { s with cpu := { s.cpu with y := v } }
  | .sp => { s with cpu := { s.cpu with sp := v } }

/-- Apply a change to the status byte `P`. -/
def State.modifyP (f : Byte → Byte) (s : State) : State := { s with cpu := { s.cpu with p := f s.cpu.p } }

/-- `NIP <- target` (00_scope.md R10). -/
def State.setNip (target : Word) (s : State) : State := { s with cpu := { s.cpu with nip := target } }

/-- Record an output (log 9). -/
def State.emit (e : Event) (s : State) : State := { s with events := e :: s.events }

/-- The free bit drawn next, and the state that has drawn it (log 7). -/
def State.drawBit (s : State) : Bool × State := (Config.freeBit s.draws, { s with draws := s.draws + 1 })

/-! ## The stack -/

/-- The address of a byte of the stack page: `STACK_PAGE*256 + SP` (10_state.md R21). -/
def stackAddr (s : State) : Word := wordOf s.cpu.sp s.cfg.stackPage

/-- `push(v)`: write, then decrement SP modulo 256 (40_cpu_engine.md R170). -/
def push (v : Byte) (s : State) : Except Fault State := do
  let s ← busWrite (stackAddr s) v s
  .ok (s.setReg .sp (s.cpu.sp - 1))

/-- `pull()`: increment SP modulo 256, then read (40_cpu_engine.md R171). -/
def pull (s : State) : Except Fault (Byte × State) := do
  let s := s.setReg .sp (s.cpu.sp + 1)
  busRead (stackAddr s) s

/-! ## One instruction -/

/-- What an effect gives: the state with A X Y SP P memory NIP written, and `extra`, its penalty cycles; or the refused access. -/
abbrev Effect := State → Except Fault (State × Nat)

/-- An effect that costs no penalty and refuses nothing. -/
def Effect.pure (f : State → State) : Effect := fun s => .ok (f s, 0)

/-- `IP <- NIP; TICK <- TICK + cycles` (40_cpu_engine.md R150). -/
def State.commit (cycles : Nat) (s : State) : State :=
  { s with cpu := { s.cpu with ip := s.cpu.nip, tick := s.cpu.tick + cycles } }

/-- `step()` after the fetch (40_cpu_engine.md R150): nominal advance by the encoded size, effect, commit. During the
effect IP is still the instruction's own address. A refused access ends the step with its fault and no state (R451, log 10). -/
def runInstr (size cycles : Nat) (effect : Effect) (s : State) : Result :=
  match effect (s.setNip (s.cpu.ip + BitVec.ofNat 16 size)) with
  | .ok (t, extra) => .next (t.commit (cycles + extra))
  | .error f => .fault f

end Sys2Proof.Machine
end

