-- ==== Sys2Proof/Machine/Flags.lean ====
section
/-! DEFINITION. The status byte and every flag computation: the flags (10_state.md R25), setNZ (40_cpu_engine.md R172), the
add, subtract and compare cores (42_arithmetic.md R210, R212, R214), BIT (43 R243), the shifts and rotates (R244 to R247). -/

namespace Sys2Proof.Machine

/-- The bits of `P` (10_state.md R25); `u` is the unnamed bit 5. -/
inductive Flag where
  | c
  | z
  | i
  | d
  | b
  | u
  | v
  | n
  deriving DecidableEq, Repr

/-- The bit number of a flag: its weight is `2 ^ bit` (10_state.md R25). -/
def Flag.bit : Flag → Nat
  | .c => 0
  | .z => 1
  | .i => 2
  | .d => 3
  | .b => 4
  | .u => 5
  | .v => 6
  | .n => 7

/-- The value of a flag in the status byte `p`. -/
def getFlag (f : Flag) (p : Byte) : Bool := p.getLsbD f.bit

/-- The status byte with one flag written and every other bit kept (40_cpu_engine.md R173). -/
def putFlag (f : Flag) (v : Bool) (p : Byte) : Byte :=
  if v then p ||| BitVec.twoPow 8 f.bit else p &&& ~~~(BitVec.twoPow 8 f.bit)

/-- A flag of the machine. -/
def State.flag (f : Flag) (s : State) : Bool := getFlag f s.cpu.p

/-- `P.f <- v` (40_cpu_engine.md R173). -/
def State.setFlag (f : Flag) (v : Bool) (s : State) : State := s.modifyP (putFlag f v)

/-- `setNZ(v)` on the status byte (40_cpu_engine.md R172). -/
def putNZ (v p : Byte) : Byte := putFlag .n v.msb (putFlag .z (v == 0) p)

/-- `setNZ(v)` (40_cpu_engine.md R172). -/
def State.setNZ (v : Byte) (s : State) : State := s.modifyP (putNZ v)

/-- A result byte with the carry and overflow computed beside it. -/
structure AluResult where
  value    : Byte
  carry    : Bool
  overflow : Bool
  deriving DecidableEq, Repr

/-- The binary branch of the add core, with the source's overflow formula (42_arithmetic.md R210). -/
def addBinary (a m : Byte) (c : Bool) : AluResult :=
  let t := a.toNat + m.toNat + c.toNat
  let r := BitVec.ofNat 8 t
  { value := r, carry := t > 255, overflow := (a.msb && m.msb) ^^ r.msb }

/-- A packed-BCD byte as a number 0..99, each nibble modulo 10 (42_arithmetic.md R210). -/
def unpackBcd (b : Byte) : Nat := (b.toNat / 16 % 10) * 10 + b.toNat % 16 % 10

/-- A number 0..99 as a packed-BCD byte: `tens<<4 | units` (42_arithmetic.md R210). -/
def packBcd (n : Nat) : Byte := BitVec.ofNat 8 ((n / 10) <<< 4 ||| n % 10)

/-- V after a decimal add, by `DEC_V_RULE` (42_arithmetic.md R210, D9); `t` is the unpacked sum, below 256. -/
def decimalOverflow (rule : DecVRule) (a m : Byte) (t : Nat) (oldV : Bool) : Bool :=
  match rule with
  | .binaryStep => ((unpackBcd a).testBit 7 && (unpackBcd m).testBit 7) ^^ t.testBit 7
  | .unchanged => oldV
  | .originalOperands => (a.msb && m.msb) ^^ t.testBit 7

/-- The decimal branch of the add core (42_arithmetic.md R210). -/
def addDecimal (rule : DecVRule) (a m : Byte) (c oldV : Bool) : AluResult :=
  let t := unpackBcd a + unpackBcd m + c.toNat
  { value := packBcd (t % 100), carry := t > 99, overflow := decimalOverflow rule a m t oldV }

/-- Decimal subtraction, V apart: the result and the carry, which says "no borrow" (42_arithmetic.md R212). -/
def subDecimal (a m : Byte) (c : Bool) : Byte × Bool :=
  let t : Int := (unpackBcd a : Int) - unpackBcd m - (1 - c.toNat)
  (packBcd (t % 100).toNat, 0 ≤ t)

/-- Write an ALU result to A with V, C, then N and Z from it (42_arithmetic.md R210). -/
def State.putAlu (r : AluResult) (s : State) : State :=
  (((s.setFlag .v r.overflow).setFlag .c r.carry).setReg .a r.value).setNZ r.value

/-- `add(m)` (42_arithmetic.md R210). -/
def addToA (m : Byte) (s : State) : State :=
  s.putAlu <|
    if s.flag .d then addDecimal s.cfg.decVRule s.cpu.a m (s.flag .c) (s.flag .v)
    else addBinary s.cpu.a m (s.flag .c)

/-- `sub(m)` (42_arithmetic.md R212). In decimal mode V is unspecified: a free bit is drawn for it (log 7). -/
def subFromA (m : Byte) (s : State) : State :=
  if s.flag .d then
    let (r, c) := subDecimal s.cpu.a m (s.flag .c)
    let (v, s) := s.drawBit
    s.putAlu { value := r, carry := c, overflow := v }
  else addToA (m ^^^ 0xFF) s

/-- `cmp(r, m)` on the status byte (42_arithmetic.md R214). -/
def putCompare (r m p : Byte) : Byte :=
  putFlag .n (r - m).msb (putFlag .z (r == m) (putFlag .c (m.toNat ≤ r.toNat) p))

/-- BIT on the status byte (43_logic_shift.md R243). -/
def putBit (a m p : Byte) : Byte :=
  putFlag .v (m.getLsbD 6) (putFlag .n (m.getLsbD 7) (putFlag .z (a &&& m == 0) p))

/-- The instructions that turn one byte into another in place. -/
inductive ModifyOp where
  | inc
  | dec
  | asl
  | lsr
  | rol
  | ror
  deriving DecidableEq, Repr

/-- The result byte of a modifying instruction on `v` with carry-in `c` (42_arithmetic.md R218, R219; 43_logic_shift.md R244 to R247). -/
def ModifyOp.result (op : ModifyOp) (v : Byte) (c : Bool) : Byte :=
  match op with
  | .inc => v + 1
  | .dec => v - 1
  | .asl => v <<< 1
  | .lsr => v >>> 1
  | .rol => (v <<< 1) ||| (BitVec.ofBool c).zeroExtend 8
  | .ror => (v >>> 1) ||| ((BitVec.ofBool c).zeroExtend 8 <<< 7)

/-- The status byte after a modifying instruction on `v`: C is the bit shifted out, untouched by INC and DEC, and N and Z
come from the result (42_arithmetic.md section 4; 43_logic_shift.md R244 to R247). -/
def ModifyOp.status (op : ModifyOp) (v p : Byte) : Byte :=
  putNZ (op.result v (getFlag .c p)) <|
    match op with
    | .inc | .dec => p
    | .asl | .rol => putFlag .c (v.getLsbD 7) p
    | .lsr | .ror => putFlag .c (v.getLsbD 0) p

end Sys2Proof.Machine
end

