-- ==== Sys2Proof/Machine/Operands.lean ====
section
/-! DEFINITION. The addressing modes: effective addresses, operands, sizes (40_cpu_engine.md R154 to R164, 30_encoding.md
R103). -/

namespace Sys2Proof.Machine

/-- `sext8(b)` as a 16-bit displacement (00_scope.md R10). -/
def sext8 (b : Byte) : Word := b.signExtend 16

/-- `zext(b)` (00_scope.md R10). -/
def zext (b : Byte) : Word := b.zeroExtend 16

/-- A memory operand: its mode and the operand value the decoder read (30_encoding.md R103). -/
inductive MemOperand where
  | zp  (b : Byte)
  | zpx (b : Byte)
  | zpy (b : Byte)
  | abs (w : Word)
  | abx (w : Word)
  | aby (w : Word)
  | izx (b : Byte)
  | izy (b : Byte)
  deriving DecidableEq, Repr

/-- The size of an instruction with this operand: opcode and operand bytes (30_encoding.md R101, R103). -/
def MemOperand.size : MemOperand → Nat
  | .zp _ | .zpx _ | .zpy _ | .izx _ | .izy _ => 2
  | .abs _ | .abx _ | .aby _ => 3

/-- `base + index` modulo 65536, and whether the page changes (40_cpu_engine.md R158, R159, R161). -/
def indexed (base : Word) (index : Byte) : Word × Bool :=
  let ea := base + zext index
  (ea, highByte ea != highByte base)

/-- Zero-page indexed: `operand + index`, 0..0x1FE, or reduced modulo 256 when `ZP_INDEX_WRAP` (40_cpu_engine.md R155, R156). -/
def zpIndexed (cfg : Config) (b index : Byte) : Word :=
  if cfg.zpIndexWrap then zext (b + index) else zext b + zext index

/-- Where the high byte of a zero-page pointer at `z` is read (40_cpu_engine.md R160, R161). -/
def pointerHigh (cfg : Config) (z : Byte) : Word :=
  if cfg.ptrHiWrap then zext (z + 1) else zext z + 1

/-- `(EA, crossed)` of a memory operand, and the state after the pointer reads (40_cpu_engine.md R154 to R161). -/
def MemOperand.address (m : MemOperand) (s : State) : Except Fault ((Word × Bool) × State) :=
  match m with
  | .zp b => .ok ((zext b, false), s)
  | .zpx b => .ok ((zpIndexed s.cfg b s.cpu.x, false), s)
  | .zpy b => .ok ((zpIndexed s.cfg b s.cpu.y, false), s)
  | .abs w => .ok ((w, false), s)
  | .abx w => .ok (indexed w s.cpu.x, s)
  | .aby w => .ok (indexed w s.cpu.y, s)
  | .izx b => do
    let z := b + s.cpu.x
    let (ea, s) ← readPair (zext z) (pointerHigh s.cfg z) s
    .ok ((ea, false), s)
  | .izy b => do
    let (base, s) ← readPair (zext b) (pointerHigh s.cfg b) s
    .ok (indexed base s.cpu.y, s)

/-- The operand of an instruction that reads: an immediate byte or a memory operand. -/
inductive ReadOperand where
  | imm (v : Byte)
  | mem (m : MemOperand)
  deriving DecidableEq, Repr

/-- The size of an instruction with this operand. -/
def ReadOperand.size : ReadOperand → Nat
  | .imm _ => 2
  | .mem m => m.size

/-- `operand()`, the penalty cycles it adds, and the state after its reads (40_cpu_engine.md R164). Every reading instruction with an ABX, ABY or IZY
form takes the page-crossing penalty, no other mode crosses (R165, R167), so `crossed` alone decides. -/
def ReadOperand.read (o : ReadOperand) (s : State) : Except Fault ((Byte × Nat) × State) :=
  match o with
  | .imm v => .ok ((v, 0), s)
  | .mem m => do
    let ((ea, crossed), s) ← m.address s
    let (v, s) ← busRead ea s
    .ok ((v, crossed.toNat), s)

/-- `target` of JMP indirect (40_cpu_engine.md R162). -/
def indirectTarget (p : Word) (s : State) : Except Fault (Word × State) :=
  readPair p (if s.cfg.jmpIndPageBug then wordOf (lowByte p + 1) (highByte p) else p + 1) s

/-- The base address of a branch, `IP + 2` (40_cpu_engine.md R163). -/
def branchBase (s : State) : Word := s.cpu.ip + 2

/-- The target of a branch with displacement byte `b1` (40_cpu_engine.md R163). -/
def branchTarget (disp : Byte) (s : State) : Word := branchBase s + sext8 disp

end Sys2Proof.Machine
end

