-- ==== Sys2Proof/Machine/Modify.lean ====
section
/-! DEFINITION. The shared operations of the instructions that change one byte in place: INC and DEC of memory (42_arithmetic.md R218, R219),
shifts and rotates of memory or A (43_logic_shift.md R244 to R247). -/

namespace Sys2Proof.Machine

/-- One read of EA, one write of the result, then the flags; no penalty (R218, R219; 43_logic_shift.md R244 to R247; 20_memory.md R74). -/
def modifyMem (op : ModifyOp) (cycles : Nat) (m : MemOperand) (s : State) : Result :=
  runInstr m.size cycles (fun s => do
    let ((ea, _), s) ← m.address s
    let (v, s) ← busRead ea s
    let s ← busWrite ea (op.result v (s.flag .c)) s
    .ok (s.modifyP (op.status v), 0)) s

/-- A shift or rotate of A: no memory access (R244 to R247, mode ACC). -/
def modifyAcc (op : ModifyOp) (cycles : Nat) (s : State) : Result :=
  runInstr 1 cycles (Effect.pure fun s =>
    (s.setReg .a (op.result s.cpu.a (s.flag .c))).modifyP (op.status s.cpu.a)) s

end Sys2Proof.Machine
end

