-- ==== Sys2Proof/Machine/Arithmetic.lean ====
section
/-! DEFINITION. Arithmetic, BCD, compares, increments and decrements (42_arithmetic.md); the cores are in Machine/Flags.lean. -/

namespace Sys2Proof.Machine

/-- `m <- operand(); f(m)`, with `f` the add or the subtract core (R211, R213). -/
def arith (f : Byte → State → State) (cycles : Nat) (o : ReadOperand) (s : State) : Result :=
  runInstr o.size cycles (fun s => do
    let ((m, extra), s) ← o.read s
    .ok (f m s, extra)) s

/-- `m <- operand(); cmp(r, m)` (R215 to R217). -/
def compareReg (r : Reg) (cycles : Nat) (o : ReadOperand) (s : State) : Result :=
  runInstr o.size cycles (fun s => do
    let ((m, extra), s) ← o.read s
    .ok (s.modifyP (putCompare (s.reg r) m), extra)) s

/-- `r <- (r + k) mod 256; setNZ(r)` (R220 to R223). -/
def countReg (r : Reg) (k : Byte) (cycles : Nat) (s : State) : Result :=
  runInstr 1 cycles (Effect.pure fun s => (s.setReg r (s.reg r + k)).setNZ (s.reg r + k)) s

/-- ADC, 61 : IZX : 6 (R211). -/
def execAdcIzx (b : Byte) (s : State) : Result := arith addToA 6 (.mem (.izx b)) s

/-- ADC, 65 : ZP : 3 (R211). -/
def execAdcZp (b : Byte) (s : State) : Result := arith addToA 3 (.mem (.zp b)) s

/-- ADC, 69 : IMM : 2 (R211). -/
def execAdcImm (b : Byte) (s : State) : Result := arith addToA 2 (.imm b) s

/-- ADC, 6D : ABS : 4 (R211). -/
def execAdcAbs (w : Word) (s : State) : Result := arith addToA 4 (.mem (.abs w)) s

/-- ADC, 71 : IZY : 5+ (R211). -/
def execAdcIzy (b : Byte) (s : State) : Result := arith addToA 5 (.mem (.izy b)) s

/-- ADC, 75 : ZPX : 4 (R211). -/
def execAdcZpx (b : Byte) (s : State) : Result := arith addToA 4 (.mem (.zpx b)) s

/-- ADC, 79 : ABY : 4+ (R211). -/
def execAdcAby (w : Word) (s : State) : Result := arith addToA 4 (.mem (.aby w)) s

/-- ADC, 7D : ABX : 4+ (R211). -/
def execAdcAbx (w : Word) (s : State) : Result := arith addToA 4 (.mem (.abx w)) s

/-- SBC, E1 : IZX : 6 (R213). -/
def execSbcIzx (b : Byte) (s : State) : Result := arith subFromA 6 (.mem (.izx b)) s

/-- SBC, E5 : ZP : 3 (R213). -/
def execSbcZp (b : Byte) (s : State) : Result := arith subFromA 3 (.mem (.zp b)) s

/-- SBC, E9 : IMM : 2 (R213). -/
def execSbcImm (b : Byte) (s : State) : Result := arith subFromA 2 (.imm b) s

/-- SBC, ED : ABS : 4 (R213). -/
def execSbcAbs (w : Word) (s : State) : Result := arith subFromA 4 (.mem (.abs w)) s

/-- SBC, F1 : IZY : 5+ (R213). -/
def execSbcIzy (b : Byte) (s : State) : Result := arith subFromA 5 (.mem (.izy b)) s

/-- SBC, F5 : ZPX : 4 (R213). -/
def execSbcZpx (b : Byte) (s : State) : Result := arith subFromA 4 (.mem (.zpx b)) s

/-- SBC, F9 : ABY : 4+ (R213). -/
def execSbcAby (w : Word) (s : State) : Result := arith subFromA 4 (.mem (.aby w)) s

/-- SBC, FD : ABX : 4+ (R213). -/
def execSbcAbx (w : Word) (s : State) : Result := arith subFromA 4 (.mem (.abx w)) s

/-- CMP, C1 : IZX : 6 (R215). -/
def execCmpIzx (b : Byte) (s : State) : Result := compareReg .a 6 (.mem (.izx b)) s

/-- CMP, C5 : ZP : 3 (R215). -/
def execCmpZp (b : Byte) (s : State) : Result := compareReg .a 3 (.mem (.zp b)) s

/-- CMP, C9 : IMM : 2 (R215). -/
def execCmpImm (b : Byte) (s : State) : Result := compareReg .a 2 (.imm b) s

/-- CMP, CD : ABS : 4 (R215). -/
def execCmpAbs (w : Word) (s : State) : Result := compareReg .a 4 (.mem (.abs w)) s

/-- CMP, D1 : IZY : 5+ (R215). -/
def execCmpIzy (b : Byte) (s : State) : Result := compareReg .a 5 (.mem (.izy b)) s

/-- CMP, D5 : ZPX : 4 (R215). -/
def execCmpZpx (b : Byte) (s : State) : Result := compareReg .a 4 (.mem (.zpx b)) s

/-- CMP, D9 : ABY : 4+ (R215). -/
def execCmpAby (w : Word) (s : State) : Result := compareReg .a 4 (.mem (.aby w)) s

/-- CMP, DD : ABX : 4+ (R215). -/
def execCmpAbx (w : Word) (s : State) : Result := compareReg .a 4 (.mem (.abx w)) s

/-- CPX, E0 : IMM : 2 (R216). -/
def execCpxImm (b : Byte) (s : State) : Result := compareReg .x 2 (.imm b) s

/-- CPX, E4 : ZP : 3 (R216). -/
def execCpxZp (b : Byte) (s : State) : Result := compareReg .x 3 (.mem (.zp b)) s

/-- CPX, EC : ABS : 4 (R216). -/
def execCpxAbs (w : Word) (s : State) : Result := compareReg .x 4 (.mem (.abs w)) s

/-- CPY, C0 : IMM : 2 (R217). -/
def execCpyImm (b : Byte) (s : State) : Result := compareReg .y 2 (.imm b) s

/-- CPY, C4 : ZP : 3 (R217). -/
def execCpyZp (b : Byte) (s : State) : Result := compareReg .y 3 (.mem (.zp b)) s

/-- CPY, CC : ABS : 4 (R217). -/
def execCpyAbs (w : Word) (s : State) : Result := compareReg .y 4 (.mem (.abs w)) s

/-- INC, E6 : ZP : 5 (R218). -/
def execIncZp (b : Byte) (s : State) : Result := modifyMem .inc 5 (.zp b) s

/-- INC, EE : ABS : 6 (R218). -/
def execIncAbs (w : Word) (s : State) : Result := modifyMem .inc 6 (.abs w) s

/-- INC, F6 : ZPX : 6 (R218). -/
def execIncZpx (b : Byte) (s : State) : Result := modifyMem .inc 6 (.zpx b) s

/-- INC, FE : ABX : 7 (R218). -/
def execIncAbx (w : Word) (s : State) : Result := modifyMem .inc 7 (.abx w) s

/-- DEC, C6 : ZP : 5 (R219). -/
def execDecZp (b : Byte) (s : State) : Result := modifyMem .dec 5 (.zp b) s

/-- DEC, CE : ABS : 6 (R219). -/
def execDecAbs (w : Word) (s : State) : Result := modifyMem .dec 6 (.abs w) s

/-- DEC, D6 : ZPX : 6 (R219). -/
def execDecZpx (b : Byte) (s : State) : Result := modifyMem .dec 6 (.zpx b) s

/-- DEC, DE : ABX : 7 (R219). -/
def execDecAbx (w : Word) (s : State) : Result := modifyMem .dec 7 (.abx w) s

/-- INX, E8 : IMP : 2 (R220). -/
def execInx (s : State) : Result := countReg .x 1 2 s

/-- INY, C8 : IMP : 2 (R221). -/
def execIny (s : State) : Result := countReg .y 1 2 s

/-- DEX, CA : IMP : 2 (R222). -/
def execDex (s : State) : Result := countReg .x (-1) 2 s

/-- DEY, 88 : IMP : 2 (R223). -/
def execDey (s : State) : Result := countReg .y (-1) 2 s

end Sys2Proof.Machine
end

