-- ==== Sys2Proof/Machine/Control.lean ====
section
/-! DEFINITION. Control transfer (44_control_flow.md): jumps, calls, returns, BRK, NOP and the conditional branches. The return of R263 pairs
with no entry: this hardware takes no exception (60_exceptions.md R454, R455). -/

namespace Sys2Proof.Machine

/-- `NIP <- b1 + 256*b2` (R260, mode ABS). -/
def jump (cycles : Nat) (w : Word) (s : State) : Result := runInstr 3 cycles (Effect.pure fun s => s.setNip w) s

/-- `NIP <- target` of the indirect mode (R260, mode IND). -/
def jumpIndirect (cycles : Nat) (w : Word) (s : State) : Result :=
  runInstr 3 cycles (fun s => do
    let (target, s) ← indirectTarget w s
    .ok (s.setNip target, 0)) s

/-- The address JSR pushes: of its own last byte (R261). -/
def returnAddr (s : State) : Word := s.cpu.ip + 2

/-- Push the return address, high byte first, and jump (R261). -/
def call (cycles : Nat) (w : Word) (s : State) : Result :=
  runInstr 3 cycles (fun s => do
    let t ← push (highByte (returnAddr s)) s
    let t ← push (lowByte (returnAddr s)) t
    .ok (t.setNip w, 0)) s

/-- Pull the low byte, then the high byte, of a 16-bit address (R262, R263). -/
def pullWord (s : State) : Except Fault (Word × State) := do
  let (lo, s) ← pull s
  let (hi, s) ← pull s
  .ok (wordOf lo hi, s)

/-- `lo <- pull(); hi <- pull(); NIP <- lo + 256*hi + 1` (R262). -/
def returnSub (cycles : Nat) (s : State) : Result :=
  runInstr 1 cycles (fun s => do
    let (w, s) ← pullWord s
    .ok (s.setNip (w + 1), 0)) s

/-- `P <- pull(); lo <- pull(); hi <- pull(); NIP <- lo + 256*hi`: all eight bits of P are loaded (R263, D15). -/
def returnInt (cycles : Nat) (s : State) : Result :=
  runInstr 1 cycles (fun s => do
    let (p, s) ← pull s
    let (w, s) ← pullWord (s.modifyP fun _ => p)
    .ok (s.setNip w, 0)) s

/-- A stepped BRK: `P.B <- 1` and nothing else (R264, D14). -/
def breakMark (cycles : Nat) (s : State) : Result := runInstr 1 cycles (Effect.pure (State.setFlag .b true)) s

/-- `branch(cond)`, taken when the flag `f` has the value `want` (R266): one more cycle when taken, two when the target is
on another page than `IP + 2` (40_cpu_engine.md R163, R166, D13). -/
def branch (f : Flag) (want : Bool) (cycles : Nat) (disp : Byte) (s : State) : Result :=
  runInstr 2 cycles (fun s =>
    if s.flag f = want then
      let target := branchTarget disp s
      .ok (s.setNip target, if highByte target = highByte (branchBase s) then 1 else 2)
    else .ok (s, 0)) s

/-- JMP, 4C : ABS : 3 (R260). -/
def execJmpAbs (w : Word) (s : State) : Result := jump 3 w s

/-- JMP, 6C : IND : 5 (R260). -/
def execJmpInd (w : Word) (s : State) : Result := jumpIndirect 5 w s

/-- JSR, 20 : ABS : 6 (R261). -/
def execJsr (w : Word) (s : State) : Result := call 6 w s

/-- RTS, 60 : IMP : 6 (R262). -/
def execRts (s : State) : Result := returnSub 6 s

/-- RTI, 40 : IMP : 6 (R263). -/
def execRti (s : State) : Result := returnInt 6 s

/-- BRK, 00 : IMP : 7 (R264). -/
def execBrk (s : State) : Result := breakMark 7 s

/-- NOP, EA : IMP : 2 (R265). -/
def execNop (s : State) : Result := runInstr 1 2 (Effect.pure id) s

/-- BPL, 10 : REL : 2 (R267). -/
def execBpl (disp : Byte) (s : State) : Result := branch .n false 2 disp s

/-- BMI, 30 : REL : 2 (R268). -/
def execBmi (disp : Byte) (s : State) : Result := branch .n true 2 disp s

/-- BVC, 50 : REL : 2 (R269). -/
def execBvc (disp : Byte) (s : State) : Result := branch .v false 2 disp s

/-- BVS, 70 : REL : 2 (R270). -/
def execBvs (disp : Byte) (s : State) : Result := branch .v true 2 disp s

/-- BCC, 90 : REL : 2 (R271). -/
def execBcc (disp : Byte) (s : State) : Result := branch .c false 2 disp s

/-- BCS, B0 : REL : 2 (R272). -/
def execBcs (disp : Byte) (s : State) : Result := branch .c true 2 disp s

/-- BNE, D0 : REL : 2 (R273). -/
def execBne (disp : Byte) (s : State) : Result := branch .z false 2 disp s

/-- BEQ, F0 : REL : 2 (R274). -/
def execBeq (disp : Byte) (s : State) : Result := branch .z true 2 disp s

end Sys2Proof.Machine
end

