-- ==== Sys2Proof/Machine/LoadStore.lean ====
section
/-! DEFINITION. Loads, stores and register transfers (41_load_store_transfer.md). Each row of the opcode map has its own meaning, one line
over the shared operation of its rule; the numbers are the base cycles of 30_encoding.md R106. -/

namespace Sys2Proof.Machine

/-- `m <- operand(); r <- m; setNZ(r)` (R190 to R192). -/
def load (r : Reg) (cycles : Nat) (o : ReadOperand) (s : State) : Result :=
  runInstr o.size cycles (fun s => do
    let ((m, extra), s) ← o.read s
    .ok ((s.setReg r m).setNZ m, extra)) s

/-- `EA <- mode rule; MemWrite(EA, 1, r)`; no flag, no penalty (R193 to R195, 40_cpu_engine.md R164). -/
def store (r : Reg) (cycles : Nat) (m : MemOperand) (s : State) : Result :=
  runInstr m.size cycles (fun s => do
    let ((ea, _), s) ← m.address s
    let s ← busWrite ea (s.reg r) s
    .ok (s, 0)) s

/-- `dst <- src; setNZ(dst)` (R196 to R200). -/
def transfer (src dst : Reg) (cycles : Nat) (s : State) : Result :=
  runInstr 1 cycles (Effect.pure fun s => (s.setReg dst (s.reg src)).setNZ (s.reg src)) s

/-- `SP <- X; if TXS_SETS_NZ: setNZ(SP)` (R201). -/
def transferToSp (cycles : Nat) (s : State) : Result :=
  runInstr 1 cycles (Effect.pure fun s =>
    if s.cfg.txsSetsNZ then (s.setReg .sp s.cpu.x).setNZ s.cpu.x else s.setReg .sp s.cpu.x) s

/-- LDA, A1 : IZX : 6 (R190). -/
def execLdaIzx (b : Byte) (s : State) : Result := load .a 6 (.mem (.izx b)) s

/-- LDA, A5 : ZP : 3 (R190). -/
def execLdaZp (b : Byte) (s : State) : Result := load .a 3 (.mem (.zp b)) s

/-- LDA, A9 : IMM : 2 (R190). -/
def execLdaImm (b : Byte) (s : State) : Result := load .a 2 (.imm b) s

/-- LDA, AD : ABS : 4 (R190). -/
def execLdaAbs (w : Word) (s : State) : Result := load .a 4 (.mem (.abs w)) s

/-- LDA, B1 : IZY : 5+ (R190). -/
def execLdaIzy (b : Byte) (s : State) : Result := load .a 5 (.mem (.izy b)) s

/-- LDA, B5 : ZPX : 4 (R190). -/
def execLdaZpx (b : Byte) (s : State) : Result := load .a 4 (.mem (.zpx b)) s

/-- LDA, B9 : ABY : 4+ (R190). -/
def execLdaAby (w : Word) (s : State) : Result := load .a 4 (.mem (.aby w)) s

/-- LDA, BD : ABX : 4+ (R190). -/
def execLdaAbx (w : Word) (s : State) : Result := load .a 4 (.mem (.abx w)) s

/-- LDX, A2 : IMM : 2 (R191). -/
def execLdxImm (b : Byte) (s : State) : Result := load .x 2 (.imm b) s

/-- LDX, A6 : ZP : 3 (R191). -/
def execLdxZp (b : Byte) (s : State) : Result := load .x 3 (.mem (.zp b)) s

/-- LDX, AE : ABS : 4 (R191). -/
def execLdxAbs (w : Word) (s : State) : Result := load .x 4 (.mem (.abs w)) s

/-- LDX, B6 : ZPY : 4 (R191). -/
def execLdxZpy (b : Byte) (s : State) : Result := load .x 4 (.mem (.zpy b)) s

/-- LDX, BE : ABY : 4+ (R191). -/
def execLdxAby (w : Word) (s : State) : Result := load .x 4 (.mem (.aby w)) s

/-- LDY, A0 : IMM : 2 (R192). -/
def execLdyImm (b : Byte) (s : State) : Result := load .y 2 (.imm b) s

/-- LDY, A4 : ZP : 3 (R192). -/
def execLdyZp (b : Byte) (s : State) : Result := load .y 3 (.mem (.zp b)) s

/-- LDY, AC : ABS : 4 (R192). -/
def execLdyAbs (w : Word) (s : State) : Result := load .y 4 (.mem (.abs w)) s

/-- LDY, B4 : ZPX : 4 (R192). -/
def execLdyZpx (b : Byte) (s : State) : Result := load .y 4 (.mem (.zpx b)) s

/-- LDY, BC : ABX : 4+ (R192). -/
def execLdyAbx (w : Word) (s : State) : Result := load .y 4 (.mem (.abx w)) s

/-- STA, 81 : IZX : 6 (R193). -/
def execStaIzx (b : Byte) (s : State) : Result := store .a 6 (.izx b) s

/-- STA, 85 : ZP : 3 (R193). -/
def execStaZp (b : Byte) (s : State) : Result := store .a 3 (.zp b) s

/-- STA, 8D : ABS : 4 (R193). -/
def execStaAbs (w : Word) (s : State) : Result := store .a 4 (.abs w) s

/-- STA, 91 : IZY : 6 (R193). -/
def execStaIzy (b : Byte) (s : State) : Result := store .a 6 (.izy b) s

/-- STA, 95 : ZPX : 4 (R193). -/
def execStaZpx (b : Byte) (s : State) : Result := store .a 4 (.zpx b) s

/-- STA, 99 : ABY : 5 (R193). -/
def execStaAby (w : Word) (s : State) : Result := store .a 5 (.aby w) s

/-- STA, 9D : ABX : 5 (R193). -/
def execStaAbx (w : Word) (s : State) : Result := store .a 5 (.abx w) s

/-- STX, 86 : ZP : 3 (R194). -/
def execStxZp (b : Byte) (s : State) : Result := store .x 3 (.zp b) s

/-- STX, 8E : ABS : 4 (R194). -/
def execStxAbs (w : Word) (s : State) : Result := store .x 4 (.abs w) s

/-- STX, 96 : ZPY : 4 (R194). -/
def execStxZpy (b : Byte) (s : State) : Result := store .x 4 (.zpy b) s

/-- STY, 84 : ZP : 3 (R195). -/
def execStyZp (b : Byte) (s : State) : Result := store .y 3 (.zp b) s

/-- STY, 8C : ABS : 4 (R195). -/
def execStyAbs (w : Word) (s : State) : Result := store .y 4 (.abs w) s

/-- STY, 94 : ZPX : 4 (R195). -/
def execStyZpx (b : Byte) (s : State) : Result := store .y 4 (.zpx b) s

/-- TAX, AA : IMP : 2 (R196). -/
def execTax (s : State) : Result := transfer .a .x 2 s

/-- TAY, A8 : IMP : 2 (R197). -/
def execTay (s : State) : Result := transfer .a .y 2 s

/-- TXA, 8A : IMP : 2 (R198). -/
def execTxa (s : State) : Result := transfer .x .a 2 s

/-- TYA, 98 : IMP : 2 (R199). -/
def execTya (s : State) : Result := transfer .y .a 2 s

/-- TSX, BA : IMP : 2 (R200). -/
def execTsx (s : State) : Result := transfer .sp .x 2 s

/-- TXS, 9A : IMP : 2 (R201). -/
def execTxs (s : State) : Result := transferToSp 2 s

end Sys2Proof.Machine
end

