-- ==== Sys2Proof/Machine/Logic.lean ====
section
/-! DEFINITION. Logic, bit test, shifts and rotates (43_logic_shift.md); the byte computations are in Machine/Flags.lean. -/

namespace Sys2Proof.Machine

/-- `m <- operand(); A <- A op m; setNZ(A)` (R240 to R242). -/
def logic (op : Byte → Byte → Byte) (cycles : Nat) (o : ReadOperand) (s : State) : Result :=
  runInstr o.size cycles (fun s => do
    let ((m, extra), s) ← o.read s
    .ok ((s.setReg .a (op s.cpu.a m)).setNZ (op s.cpu.a m), extra)) s

/-- `m <- operand()`; Z from A AND m, N and V from m (R243). -/
def bitTest (cycles : Nat) (o : ReadOperand) (s : State) : Result :=
  runInstr o.size cycles (fun s => do
    let ((m, extra), s) ← o.read s
    .ok (s.modifyP (putBit s.cpu.a m), extra)) s

/-- AND, 21 : IZX : 6 (R240). -/
def execAndIzx (b : Byte) (s : State) : Result := logic (· &&& ·) 6 (.mem (.izx b)) s

/-- AND, 25 : ZP : 3 (R240). -/
def execAndZp (b : Byte) (s : State) : Result := logic (· &&& ·) 3 (.mem (.zp b)) s

/-- AND, 29 : IMM : 2 (R240). -/
def execAndImm (b : Byte) (s : State) : Result := logic (· &&& ·) 2 (.imm b) s

/-- AND, 2D : ABS : 4 (R240). -/
def execAndAbs (w : Word) (s : State) : Result := logic (· &&& ·) 4 (.mem (.abs w)) s

/-- AND, 31 : IZY : 5+ (R240). -/
def execAndIzy (b : Byte) (s : State) : Result := logic (· &&& ·) 5 (.mem (.izy b)) s

/-- AND, 35 : ZPX : 4 (R240). -/
def execAndZpx (b : Byte) (s : State) : Result := logic (· &&& ·) 4 (.mem (.zpx b)) s

/-- AND, 39 : ABY : 4+ (R240). -/
def execAndAby (w : Word) (s : State) : Result := logic (· &&& ·) 4 (.mem (.aby w)) s

/-- AND, 3D : ABX : 4+ (R240). -/
def execAndAbx (w : Word) (s : State) : Result := logic (· &&& ·) 4 (.mem (.abx w)) s

/-- ORA, 01 : IZX : 6 (R241). -/
def execOraIzx (b : Byte) (s : State) : Result := logic (· ||| ·) 6 (.mem (.izx b)) s

/-- ORA, 05 : ZP : 3 (R241). -/
def execOraZp (b : Byte) (s : State) : Result := logic (· ||| ·) 3 (.mem (.zp b)) s

/-- ORA, 09 : IMM : 2 (R241). -/
def execOraImm (b : Byte) (s : State) : Result := logic (· ||| ·) 2 (.imm b) s

/-- ORA, 0D : ABS : 4 (R241). -/
def execOraAbs (w : Word) (s : State) : Result := logic (· ||| ·) 4 (.mem (.abs w)) s

/-- ORA, 11 : IZY : 5+ (R241). -/
def execOraIzy (b : Byte) (s : State) : Result := logic (· ||| ·) 5 (.mem (.izy b)) s

/-- ORA, 15 : ZPX : 4 (R241). -/
def execOraZpx (b : Byte) (s : State) : Result := logic (· ||| ·) 4 (.mem (.zpx b)) s

/-- ORA, 19 : ABY : 4+ (R241). -/
def execOraAby (w : Word) (s : State) : Result := logic (· ||| ·) 4 (.mem (.aby w)) s

/-- ORA, 1D : ABX : 4+ (R241). -/
def execOraAbx (w : Word) (s : State) : Result := logic (· ||| ·) 4 (.mem (.abx w)) s

/-- EOR, 41 : IZX : 6 (R242). -/
def execEorIzx (b : Byte) (s : State) : Result := logic (· ^^^ ·) 6 (.mem (.izx b)) s

/-- EOR, 45 : ZP : 3 (R242). -/
def execEorZp (b : Byte) (s : State) : Result := logic (· ^^^ ·) 3 (.mem (.zp b)) s

/-- EOR, 49 : IMM : 2 (R242). -/
def execEorImm (b : Byte) (s : State) : Result := logic (· ^^^ ·) 2 (.imm b) s

/-- EOR, 4D : ABS : 4 (R242). -/
def execEorAbs (w : Word) (s : State) : Result := logic (· ^^^ ·) 4 (.mem (.abs w)) s

/-- EOR, 51 : IZY : 5+ (R242). -/
def execEorIzy (b : Byte) (s : State) : Result := logic (· ^^^ ·) 5 (.mem (.izy b)) s

/-- EOR, 55 : ZPX : 4 (R242). -/
def execEorZpx (b : Byte) (s : State) : Result := logic (· ^^^ ·) 4 (.mem (.zpx b)) s

/-- EOR, 59 : ABY : 4+ (R242). -/
def execEorAby (w : Word) (s : State) : Result := logic (· ^^^ ·) 4 (.mem (.aby w)) s

/-- EOR, 5D : ABX : 4+ (R242). -/
def execEorAbx (w : Word) (s : State) : Result := logic (· ^^^ ·) 4 (.mem (.abx w)) s

/-- BIT, 24 : ZP : 3 (R243). -/
def execBitZp (b : Byte) (s : State) : Result := bitTest 3 (.mem (.zp b)) s

/-- BIT, 2C : ABS : 4 (R243). -/
def execBitAbs (w : Word) (s : State) : Result := bitTest 4 (.mem (.abs w)) s

/-- ASL, 06 : ZP : 5 (R244). -/
def execAslZp (b : Byte) (s : State) : Result := modifyMem .asl 5 (.zp b) s

/-- ASL, 0A : ACC : 2 (R244). -/
def execAslAcc (s : State) : Result := modifyAcc .asl 2 s

/-- ASL, 0E : ABS : 6 (R244). -/
def execAslAbs (w : Word) (s : State) : Result := modifyMem .asl 6 (.abs w) s

/-- ASL, 16 : ZPX : 6 (R244). -/
def execAslZpx (b : Byte) (s : State) : Result := modifyMem .asl 6 (.zpx b) s

/-- ASL, 1E : ABX : 7 (R244). -/
def execAslAbx (w : Word) (s : State) : Result := modifyMem .asl 7 (.abx w) s

/-- LSR, 46 : ZP : 5 (R245). -/
def execLsrZp (b : Byte) (s : State) : Result := modifyMem .lsr 5 (.zp b) s

/-- LSR, 4A : ACC : 2 (R245). -/
def execLsrAcc (s : State) : Result := modifyAcc .lsr 2 s

/-- LSR, 4E : ABS : 6 (R245). -/
def execLsrAbs (w : Word) (s : State) : Result := modifyMem .lsr 6 (.abs w) s

/-- LSR, 56 : ZPX : 6 (R245). -/
def execLsrZpx (b : Byte) (s : State) : Result := modifyMem .lsr 6 (.zpx b) s

/-- LSR, 5E : ABX : 7 (R245). -/
def execLsrAbx (w : Word) (s : State) : Result := modifyMem .lsr 7 (.abx w) s

/-- ROL, 26 : ZP : 5 (R246). -/
def execRolZp (b : Byte) (s : State) : Result := modifyMem .rol 5 (.zp b) s

/-- ROL, 2A : ACC : 2 (R246). -/
def execRolAcc (s : State) : Result := modifyAcc .rol 2 s

/-- ROL, 2E : ABS : 6 (R246). -/
def execRolAbs (w : Word) (s : State) : Result := modifyMem .rol 6 (.abs w) s

/-- ROL, 36 : ZPX : 6 (R246). -/
def execRolZpx (b : Byte) (s : State) : Result := modifyMem .rol 6 (.zpx b) s

/-- ROL, 3E : ABX : 7 (R246). -/
def execRolAbx (w : Word) (s : State) : Result := modifyMem .rol 7 (.abx w) s

/-- ROR, 66 : ZP : 5 (R247). -/
def execRorZp (b : Byte) (s : State) : Result := modifyMem .ror 5 (.zp b) s

/-- ROR, 6A : ACC : 2 (R247). -/
def execRorAcc (s : State) : Result := modifyAcc .ror 2 s

/-- ROR, 6E : ABS : 6 (R247). -/
def execRorAbs (w : Word) (s : State) : Result := modifyMem .ror 6 (.abs w) s

/-- ROR, 76 : ZPX : 6 (R247). -/
def execRorZpx (b : Byte) (s : State) : Result := modifyMem .ror 6 (.zpx b) s

/-- ROR, 7E : ABX : 7 (R247). -/
def execRorAbx (w : Word) (s : State) : Result := modifyMem .ror 7 (.abx w) s

end Sys2Proof.Machine
end

