-- ==== Sys2Proof/Machine/StackFlags.lean ====
section
/-! DEFINITION. Stack and flag instructions (45_stack_flags.md). -/

namespace Sys2Proof.Machine

/-- `push(v)`, with `v` A or P as stored, no bit forced (R290, R291, D15). -/
def pushByte (cycles : Nat) (v : State → Byte) (s : State) : Result :=
  runInstr 1 cycles (fun s => do
    let t ← push (v s) s
    .ok (t, 0)) s

/-- `A <- pull(); setNZ(A)` (R292). -/
def pullA (cycles : Nat) (s : State) : Result :=
  runInstr 1 cycles (fun s => do
    let (v, s) ← pull s
    .ok ((s.setReg .a v).setNZ v, 0)) s

/-- `P <- pull()`, all eight bits (R293, D15). -/
def pullP (cycles : Nat) (s : State) : Result :=
  runInstr 1 cycles (fun s => do
    let (v, s) ← pull s
    .ok (s.modifyP fun _ => v, 0)) s

/-- `P.f <- v` and nothing else (R294 to R300). -/
def writeFlag (f : Flag) (v : Bool) (cycles : Nat) (s : State) : Result :=
  runInstr 1 cycles (Effect.pure (State.setFlag f v)) s

/-- PHA, 48 : IMP : 3 (R290). -/
def execPha (s : State) : Result := pushByte 3 (fun t => t.cpu.a) s

/-- PHP, 08 : IMP : 3 (R291). -/
def execPhp (s : State) : Result := pushByte 3 (fun t => t.cpu.p) s

/-- PLA, 68 : IMP : 4 (R292). -/
def execPla (s : State) : Result := pullA 4 s

/-- PLP, 28 : IMP : 4 (R293). -/
def execPlp (s : State) : Result := pullP 4 s

/-- CLC, 18 : IMP : 2 (R294). -/
def execClc (s : State) : Result := writeFlag .c false 2 s

/-- SEC, 38 : IMP : 2 (R295). -/
def execSec (s : State) : Result := writeFlag .c true 2 s

/-- CLI, 58 : IMP : 2 (R296). -/
def execCli (s : State) : Result := writeFlag .i false 2 s

/-- SEI, 78 : IMP : 2 (R297). -/
def execSei (s : State) : Result := writeFlag .i true 2 s

/-- CLD, D8 : IMP : 2 (R298). -/
def execCld (s : State) : Result := writeFlag .d false 2 s

/-- SED, F8 : IMP : 2 (R299). -/
def execSed (s : State) : Result := writeFlag .d true 2 s

/-- CLV, B8 : IMP : 2 (R300). -/
def execClv (s : State) : Result := writeFlag .v false 2 s

end Sys2Proof.Machine
end

