-- ==== Sys2Proof/Machine/Unassigned.lean ====
section
/-! DEFINITION. The 105 future-expansion opcodes (46_unassigned.md R310 to R312): diagnostic no-ops of one byte, `UNASSIGNED_SIZE`. -/

namespace Sys2Proof.Machine

/-- `diagnostic(op)`: no register, flag or memory write; one byte, `UNASSIGNED_CYCLES` cycles (R311, D16). -/
def unassigned (op : Byte) (s : State) : Result :=
  runInstr 1 s.cfg.unassignedCycles (Effect.pure (State.emit (.diagnostic op))) s

/-- FX02 (R311). -/
def execFx02 (s : State) : Result := unassigned 0x02 s

/-- FX03 (R311). -/
def execFx03 (s : State) : Result := unassigned 0x03 s

/-- FX04 (R311). -/
def execFx04 (s : State) : Result := unassigned 0x04 s

/-- FX07 (R311). -/
def execFx07 (s : State) : Result := unassigned 0x07 s

/-- FX0B (R311). -/
def execFx0B (s : State) : Result := unassigned 0x0B s

/-- FX0C (R311). -/
def execFx0C (s : State) : Result := unassigned 0x0C s

/-- FX0F (R311). -/
def execFx0F (s : State) : Result := unassigned 0x0F s

/-- FX12 (R311). -/
def execFx12 (s : State) : Result := unassigned 0x12 s

/-- FX13 (R311). -/
def execFx13 (s : State) : Result := unassigned 0x13 s

/-- FX14 (R311). -/
def execFx14 (s : State) : Result := unassigned 0x14 s

/-- FX17 (R311). -/
def execFx17 (s : State) : Result := unassigned 0x17 s

/-- FX1A (R311). -/
def execFx1A (s : State) : Result := unassigned 0x1A s

/-- FX1B (R311). -/
def execFx1B (s : State) : Result := unassigned 0x1B s

/-- FX1C (R311). -/
def execFx1C (s : State) : Result := unassigned 0x1C s

/-- FX1F (R311). -/
def execFx1F (s : State) : Result := unassigned 0x1F s

/-- FX22 (R311). -/
def execFx22 (s : State) : Result := unassigned 0x22 s

/-- FX23 (R311). -/
def execFx23 (s : State) : Result := unassigned 0x23 s

/-- FX27 (R311). -/
def execFx27 (s : State) : Result := unassigned 0x27 s

/-- FX2B (R311). -/
def execFx2B (s : State) : Result := unassigned 0x2B s

/-- FX2F (R311). -/
def execFx2F (s : State) : Result := unassigned 0x2F s

/-- FX32 (R311). -/
def execFx32 (s : State) : Result := unassigned 0x32 s

/-- FX33 (R311). -/
def execFx33 (s : State) : Result := unassigned 0x33 s

/-- FX34 (R311). -/
def execFx34 (s : State) : Result := unassigned 0x34 s

/-- FX37 (R311). -/
def execFx37 (s : State) : Result := unassigned 0x37 s

/-- FX3A (R311). -/
def execFx3A (s : State) : Result := unassigned 0x3A s

/-- FX3B (R311). -/
def execFx3B (s : State) : Result := unassigned 0x3B s

/-- FX3C (R311). -/
def execFx3C (s : State) : Result := unassigned 0x3C s

/-- FX3F (R311). -/
def execFx3F (s : State) : Result := unassigned 0x3F s

/-- FX42 (R311). -/
def execFx42 (s : State) : Result := unassigned 0x42 s

/-- FX43 (R311). -/
def execFx43 (s : State) : Result := unassigned 0x43 s

/-- FX44 (R311). -/
def execFx44 (s : State) : Result := unassigned 0x44 s

/-- FX47 (R311). -/
def execFx47 (s : State) : Result := unassigned 0x47 s

/-- FX4B (R311). -/
def execFx4B (s : State) : Result := unassigned 0x4B s

/-- FX4F (R311). -/
def execFx4F (s : State) : Result := unassigned 0x4F s

/-- FX52 (R311). -/
def execFx52 (s : State) : Result := unassigned 0x52 s

/-- FX53 (R311). -/
def execFx53 (s : State) : Result := unassigned 0x53 s

/-- FX54 (R311). -/
def execFx54 (s : State) : Result := unassigned 0x54 s

/-- FX57 (R311). -/
def execFx57 (s : State) : Result := unassigned 0x57 s

/-- FX5A (R311). -/
def execFx5A (s : State) : Result := unassigned 0x5A s

/-- FX5B (R311). -/
def execFx5B (s : State) : Result := unassigned 0x5B s

/-- FX5C (R311). -/
def execFx5C (s : State) : Result := unassigned 0x5C s

/-- FX5F (R311). -/
def execFx5F (s : State) : Result := unassigned 0x5F s

/-- FX62 (R311). -/
def execFx62 (s : State) : Result := unassigned 0x62 s

/-- FX63 (R311). -/
def execFx63 (s : State) : Result := unassigned 0x63 s

/-- FX64 (R311). -/
def execFx64 (s : State) : Result := unassigned 0x64 s

/-- FX67 (R311). -/
def execFx67 (s : State) : Result := unassigned 0x67 s

/-- FX6B (R311). -/
def execFx6B (s : State) : Result := unassigned 0x6B s

/-- FX6F (R311). -/
def execFx6F (s : State) : Result := unassigned 0x6F s

/-- FX72 (R311). -/
def execFx72 (s : State) : Result := unassigned 0x72 s

/-- FX73 (R311). -/
def execFx73 (s : State) : Result := unassigned 0x73 s

/-- FX74 (R311). -/
def execFx74 (s : State) : Result := unassigned 0x74 s

/-- FX77 (R311). -/
def execFx77 (s : State) : Result := unassigned 0x77 s

/-- FX7A (R311). -/
def execFx7A (s : State) : Result := unassigned 0x7A s

/-- FX7B (R311). -/
def execFx7B (s : State) : Result := unassigned 0x7B s

/-- FX7C (R311). -/
def execFx7C (s : State) : Result := unassigned 0x7C s

/-- FX7F (R311). -/
def execFx7F (s : State) : Result := unassigned 0x7F s

/-- FX80 (R311). -/
def execFx80 (s : State) : Result := unassigned 0x80 s

/-- FX82 (R311). -/
def execFx82 (s : State) : Result := unassigned 0x82 s

/-- FX83 (R311). -/
def execFx83 (s : State) : Result := unassigned 0x83 s

/-- FX87 (R311). -/
def execFx87 (s : State) : Result := unassigned 0x87 s

/-- FX89 (R311). -/
def execFx89 (s : State) : Result := unassigned 0x89 s

/-- FX8B (R311). -/
def execFx8B (s : State) : Result := unassigned 0x8B s

/-- FX8F (R311). -/
def execFx8F (s : State) : Result := unassigned 0x8F s

/-- FX92 (R311). -/
def execFx92 (s : State) : Result := unassigned 0x92 s

/-- FX93 (R311). -/
def execFx93 (s : State) : Result := unassigned 0x93 s

/-- FX97 (R311). -/
def execFx97 (s : State) : Result := unassigned 0x97 s

/-- FX9B (R311). -/
def execFx9B (s : State) : Result := unassigned 0x9B s

/-- FX9C (R311). -/
def execFx9C (s : State) : Result := unassigned 0x9C s

/-- FX9E (R311). -/
def execFx9E (s : State) : Result := unassigned 0x9E s

/-- FX9F (R311). -/
def execFx9F (s : State) : Result := unassigned 0x9F s

/-- FXA3 (R311). -/
def execFxA3 (s : State) : Result := unassigned 0xA3 s

/-- FXA7 (R311). -/
def execFxA7 (s : State) : Result := unassigned 0xA7 s

/-- FXAB (R311). -/
def execFxAB (s : State) : Result := unassigned 0xAB s

/-- FXAF (R311). -/
def execFxAF (s : State) : Result := unassigned 0xAF s

/-- FXB2 (R311). -/
def execFxB2 (s : State) : Result := unassigned 0xB2 s

/-- FXB3 (R311). -/
def execFxB3 (s : State) : Result := unassigned 0xB3 s

/-- FXB7 (R311). -/
def execFxB7 (s : State) : Result := unassigned 0xB7 s

/-- FXBB (R311). -/
def execFxBB (s : State) : Result := unassigned 0xBB s

/-- FXBF (R311). -/
def execFxBF (s : State) : Result := unassigned 0xBF s

/-- FXC2 (R311). -/
def execFxC2 (s : State) : Result := unassigned 0xC2 s

/-- FXC3 (R311). -/
def execFxC3 (s : State) : Result := unassigned 0xC3 s

/-- FXC7 (R311). -/
def execFxC7 (s : State) : Result := unassigned 0xC7 s

/-- FXCB (R311). -/
def execFxCB (s : State) : Result := unassigned 0xCB s

/-- FXCF (R311). -/
def execFxCF (s : State) : Result := unassigned 0xCF s

/-- FXD2 (R311). -/
def execFxD2 (s : State) : Result := unassigned 0xD2 s

/-- FXD3 (R311). -/
def execFxD3 (s : State) : Result := unassigned 0xD3 s

/-- FXD4 (R311). -/
def execFxD4 (s : State) : Result := unassigned 0xD4 s

/-- FXD7 (R311). -/
def execFxD7 (s : State) : Result := unassigned 0xD7 s

/-- FXDA (R311). -/
def execFxDA (s : State) : Result := unassigned 0xDA s

/-- FXDB (R311). -/
def execFxDB (s : State) : Result := unassigned 0xDB s

/-- FXDC (R311). -/
def execFxDC (s : State) : Result := unassigned 0xDC s

/-- FXDF (R311). -/
def execFxDF (s : State) : Result := unassigned 0xDF s

/-- FXE2 (R311). -/
def execFxE2 (s : State) : Result := unassigned 0xE2 s

/-- FXE3 (R311). -/
def execFxE3 (s : State) : Result := unassigned 0xE3 s

/-- FXE7 (R311). -/
def execFxE7 (s : State) : Result := unassigned 0xE7 s

/-- FXEB (R311). -/
def execFxEB (s : State) : Result := unassigned 0xEB s

/-- FXEF (R311). -/
def execFxEF (s : State) : Result := unassigned 0xEF s

/-- FXF2 (R311). -/
def execFxF2 (s : State) : Result := unassigned 0xF2 s

/-- FXF3 (R311). -/
def execFxF3 (s : State) : Result := unassigned 0xF3 s

/-- FXF4 (R311). -/
def execFxF4 (s : State) : Result := unassigned 0xF4 s

/-- FXF7 (R311). -/
def execFxF7 (s : State) : Result := unassigned 0xF7 s

/-- FXFA (R311). -/
def execFxFA (s : State) : Result := unassigned 0xFA s

/-- FXFB (R311). -/
def execFxFB (s : State) : Result := unassigned 0xFB s

/-- FXFC (R311). -/
def execFxFC (s : State) : Result := unassigned 0xFC s

/-- FXFF (R311). -/
def execFxFF (s : State) : Result := unassigned 0xFF s

end Sys2Proof.Machine
end

