-- ==== Sys2Proof/Machine/Dispatch.lean ====
section
/-! DEFINITION. One arm per instruction: the `d.effect` of 40_cpu_engine.md R150, R151, with the advance and the commit of the
step (Machine/Ops.lean's runInstr). -/

namespace Sys2Proof.Machine

def exec (i : Instr) (s : State) : Host.Outcome State Fault Refusal :=
  match i with
  | .brk => Sys2Proof.Machine.execBrk s
  | .oraIzx b => Sys2Proof.Machine.execOraIzx b s
  | .fx02 => Sys2Proof.Machine.execFx02 s
  | .fx03 => Sys2Proof.Machine.execFx03 s
  | .fx04 => Sys2Proof.Machine.execFx04 s
  | .oraZp b => Sys2Proof.Machine.execOraZp b s
  | .aslZp b => Sys2Proof.Machine.execAslZp b s
  | .fx07 => Sys2Proof.Machine.execFx07 s
  | .php => Sys2Proof.Machine.execPhp s
  | .oraImm b => Sys2Proof.Machine.execOraImm b s
  | .aslAcc => Sys2Proof.Machine.execAslAcc s
  | .fx0B => Sys2Proof.Machine.execFx0B s
  | .fx0C => Sys2Proof.Machine.execFx0C s
  | .oraAbs w => Sys2Proof.Machine.execOraAbs w s
  | .aslAbs w => Sys2Proof.Machine.execAslAbs w s
  | .fx0F => Sys2Proof.Machine.execFx0F s
  | .bpl disp => Sys2Proof.Machine.execBpl disp s
  | .oraIzy b => Sys2Proof.Machine.execOraIzy b s
  | .fx12 => Sys2Proof.Machine.execFx12 s
  | .fx13 => Sys2Proof.Machine.execFx13 s
  | .fx14 => Sys2Proof.Machine.execFx14 s
  | .oraZpx b => Sys2Proof.Machine.execOraZpx b s
  | .aslZpx b => Sys2Proof.Machine.execAslZpx b s
  | .fx17 => Sys2Proof.Machine.execFx17 s
  | .clc => Sys2Proof.Machine.execClc s
  | .oraAby w => Sys2Proof.Machine.execOraAby w s
  | .fx1A => Sys2Proof.Machine.execFx1A s
  | .fx1B => Sys2Proof.Machine.execFx1B s
  | .fx1C => Sys2Proof.Machine.execFx1C s
  | .oraAbx w => Sys2Proof.Machine.execOraAbx w s
  | .aslAbx w => Sys2Proof.Machine.execAslAbx w s
  | .fx1F => Sys2Proof.Machine.execFx1F s
  | .jsr w => Sys2Proof.Machine.execJsr w s
  | .andIzx b => Sys2Proof.Machine.execAndIzx b s
  | .fx22 => Sys2Proof.Machine.execFx22 s
  | .fx23 => Sys2Proof.Machine.execFx23 s
  | .bitZp b => Sys2Proof.Machine.execBitZp b s
  | .andZp b => Sys2Proof.Machine.execAndZp b s
  | .rolZp b => Sys2Proof.Machine.execRolZp b s
  | .fx27 => Sys2Proof.Machine.execFx27 s
  | .plp => Sys2Proof.Machine.execPlp s
  | .andImm b => Sys2Proof.Machine.execAndImm b s
  | .rolAcc => Sys2Proof.Machine.execRolAcc s
  | .fx2B => Sys2Proof.Machine.execFx2B s
  | .bitAbs w => Sys2Proof.Machine.execBitAbs w s
  | .andAbs w => Sys2Proof.Machine.execAndAbs w s
  | .rolAbs w => Sys2Proof.Machine.execRolAbs w s
  | .fx2F => Sys2Proof.Machine.execFx2F s
  | .bmi disp => Sys2Proof.Machine.execBmi disp s
  | .andIzy b => Sys2Proof.Machine.execAndIzy b s
  | .fx32 => Sys2Proof.Machine.execFx32 s
  | .fx33 => Sys2Proof.Machine.execFx33 s
  | .fx34 => Sys2Proof.Machine.execFx34 s
  | .andZpx b => Sys2Proof.Machine.execAndZpx b s
  | .rolZpx b => Sys2Proof.Machine.execRolZpx b s
  | .fx37 => Sys2Proof.Machine.execFx37 s
  | .sec => Sys2Proof.Machine.execSec s
  | .andAby w => Sys2Proof.Machine.execAndAby w s
  | .fx3A => Sys2Proof.Machine.execFx3A s
  | .fx3B => Sys2Proof.Machine.execFx3B s
  | .fx3C => Sys2Proof.Machine.execFx3C s
  | .andAbx w => Sys2Proof.Machine.execAndAbx w s
  | .rolAbx w => Sys2Proof.Machine.execRolAbx w s
  | .fx3F => Sys2Proof.Machine.execFx3F s
  | .rti => Sys2Proof.Machine.execRti s
  | .eorIzx b => Sys2Proof.Machine.execEorIzx b s
  | .fx42 => Sys2Proof.Machine.execFx42 s
  | .fx43 => Sys2Proof.Machine.execFx43 s
  | .fx44 => Sys2Proof.Machine.execFx44 s
  | .eorZp b => Sys2Proof.Machine.execEorZp b s
  | .lsrZp b => Sys2Proof.Machine.execLsrZp b s
  | .fx47 => Sys2Proof.Machine.execFx47 s
  | .pha => Sys2Proof.Machine.execPha s
  | .eorImm b => Sys2Proof.Machine.execEorImm b s
  | .lsrAcc => Sys2Proof.Machine.execLsrAcc s
  | .fx4B => Sys2Proof.Machine.execFx4B s
  | .jmpAbs w => Sys2Proof.Machine.execJmpAbs w s
  | .eorAbs w => Sys2Proof.Machine.execEorAbs w s
  | .lsrAbs w => Sys2Proof.Machine.execLsrAbs w s
  | .fx4F => Sys2Proof.Machine.execFx4F s
  | .bvc disp => Sys2Proof.Machine.execBvc disp s
  | .eorIzy b => Sys2Proof.Machine.execEorIzy b s
  | .fx52 => Sys2Proof.Machine.execFx52 s
  | .fx53 => Sys2Proof.Machine.execFx53 s
  | .fx54 => Sys2Proof.Machine.execFx54 s
  | .eorZpx b => Sys2Proof.Machine.execEorZpx b s
  | .lsrZpx b => Sys2Proof.Machine.execLsrZpx b s
  | .fx57 => Sys2Proof.Machine.execFx57 s
  | .cli => Sys2Proof.Machine.execCli s
  | .eorAby w => Sys2Proof.Machine.execEorAby w s
  | .fx5A => Sys2Proof.Machine.execFx5A s
  | .fx5B => Sys2Proof.Machine.execFx5B s
  | .fx5C => Sys2Proof.Machine.execFx5C s
  | .eorAbx w => Sys2Proof.Machine.execEorAbx w s
  | .lsrAbx w => Sys2Proof.Machine.execLsrAbx w s
  | .fx5F => Sys2Proof.Machine.execFx5F s
  | .rts => Sys2Proof.Machine.execRts s
  | .adcIzx b => Sys2Proof.Machine.execAdcIzx b s
  | .fx62 => Sys2Proof.Machine.execFx62 s
  | .fx63 => Sys2Proof.Machine.execFx63 s
  | .fx64 => Sys2Proof.Machine.execFx64 s
  | .adcZp b => Sys2Proof.Machine.execAdcZp b s
  | .rorZp b => Sys2Proof.Machine.execRorZp b s
  | .fx67 => Sys2Proof.Machine.execFx67 s
  | .pla => Sys2Proof.Machine.execPla s
  | .adcImm b => Sys2Proof.Machine.execAdcImm b s
  | .rorAcc => Sys2Proof.Machine.execRorAcc s
  | .fx6B => Sys2Proof.Machine.execFx6B s
  | .jmpInd w => Sys2Proof.Machine.execJmpInd w s
  | .adcAbs w => Sys2Proof.Machine.execAdcAbs w s
  | .rorAbs w => Sys2Proof.Machine.execRorAbs w s
  | .fx6F => Sys2Proof.Machine.execFx6F s
  | .bvs disp => Sys2Proof.Machine.execBvs disp s
  | .adcIzy b => Sys2Proof.Machine.execAdcIzy b s
  | .fx72 => Sys2Proof.Machine.execFx72 s
  | .fx73 => Sys2Proof.Machine.execFx73 s
  | .fx74 => Sys2Proof.Machine.execFx74 s
  | .adcZpx b => Sys2Proof.Machine.execAdcZpx b s
  | .rorZpx b => Sys2Proof.Machine.execRorZpx b s
  | .fx77 => Sys2Proof.Machine.execFx77 s
  | .sei => Sys2Proof.Machine.execSei s
  | .adcAby w => Sys2Proof.Machine.execAdcAby w s
  | .fx7A => Sys2Proof.Machine.execFx7A s
  | .fx7B => Sys2Proof.Machine.execFx7B s
  | .fx7C => Sys2Proof.Machine.execFx7C s
  | .adcAbx w => Sys2Proof.Machine.execAdcAbx w s
  | .rorAbx w => Sys2Proof.Machine.execRorAbx w s
  | .fx7F => Sys2Proof.Machine.execFx7F s
  | .fx80 => Sys2Proof.Machine.execFx80 s
  | .staIzx b => Sys2Proof.Machine.execStaIzx b s
  | .fx82 => Sys2Proof.Machine.execFx82 s
  | .fx83 => Sys2Proof.Machine.execFx83 s
  | .styZp b => Sys2Proof.Machine.execStyZp b s
  | .staZp b => Sys2Proof.Machine.execStaZp b s
  | .stxZp b => Sys2Proof.Machine.execStxZp b s
  | .fx87 => Sys2Proof.Machine.execFx87 s
  | .dey => Sys2Proof.Machine.execDey s
  | .fx89 => Sys2Proof.Machine.execFx89 s
  | .txa => Sys2Proof.Machine.execTxa s
  | .fx8B => Sys2Proof.Machine.execFx8B s
  | .styAbs w => Sys2Proof.Machine.execStyAbs w s
  | .staAbs w => Sys2Proof.Machine.execStaAbs w s
  | .stxAbs w => Sys2Proof.Machine.execStxAbs w s
  | .fx8F => Sys2Proof.Machine.execFx8F s
  | .bcc disp => Sys2Proof.Machine.execBcc disp s
  | .staIzy b => Sys2Proof.Machine.execStaIzy b s
  | .fx92 => Sys2Proof.Machine.execFx92 s
  | .fx93 => Sys2Proof.Machine.execFx93 s
  | .styZpx b => Sys2Proof.Machine.execStyZpx b s
  | .staZpx b => Sys2Proof.Machine.execStaZpx b s
  | .stxZpy b => Sys2Proof.Machine.execStxZpy b s
  | .fx97 => Sys2Proof.Machine.execFx97 s
  | .tya => Sys2Proof.Machine.execTya s
  | .staAby w => Sys2Proof.Machine.execStaAby w s
  | .txs => Sys2Proof.Machine.execTxs s
  | .fx9B => Sys2Proof.Machine.execFx9B s
  | .fx9C => Sys2Proof.Machine.execFx9C s
  | .staAbx w => Sys2Proof.Machine.execStaAbx w s
  | .fx9E => Sys2Proof.Machine.execFx9E s
  | .fx9F => Sys2Proof.Machine.execFx9F s
  | .ldyImm b => Sys2Proof.Machine.execLdyImm b s
  | .ldaIzx b => Sys2Proof.Machine.execLdaIzx b s
  | .ldxImm b => Sys2Proof.Machine.execLdxImm b s
  | .fxA3 => Sys2Proof.Machine.execFxA3 s
  | .ldyZp b => Sys2Proof.Machine.execLdyZp b s
  | .ldaZp b => Sys2Proof.Machine.execLdaZp b s
  | .ldxZp b => Sys2Proof.Machine.execLdxZp b s
  | .fxA7 => Sys2Proof.Machine.execFxA7 s
  | .tay => Sys2Proof.Machine.execTay s
  | .ldaImm b => Sys2Proof.Machine.execLdaImm b s
  | .tax => Sys2Proof.Machine.execTax s
  | .fxAB => Sys2Proof.Machine.execFxAB s
  | .ldyAbs w => Sys2Proof.Machine.execLdyAbs w s
  | .ldaAbs w => Sys2Proof.Machine.execLdaAbs w s
  | .ldxAbs w => Sys2Proof.Machine.execLdxAbs w s
  | .fxAF => Sys2Proof.Machine.execFxAF s
  | .bcs disp => Sys2Proof.Machine.execBcs disp s
  | .ldaIzy b => Sys2Proof.Machine.execLdaIzy b s
  | .fxB2 => Sys2Proof.Machine.execFxB2 s
  | .fxB3 => Sys2Proof.Machine.execFxB3 s
  | .ldyZpx b => Sys2Proof.Machine.execLdyZpx b s
  | .ldaZpx b => Sys2Proof.Machine.execLdaZpx b s
  | .ldxZpy b => Sys2Proof.Machine.execLdxZpy b s
  | .fxB7 => Sys2Proof.Machine.execFxB7 s
  | .clv => Sys2Proof.Machine.execClv s
  | .ldaAby w => Sys2Proof.Machine.execLdaAby w s
  | .tsx => Sys2Proof.Machine.execTsx s
  | .fxBB => Sys2Proof.Machine.execFxBB s
  | .ldyAbx w => Sys2Proof.Machine.execLdyAbx w s
  | .ldaAbx w => Sys2Proof.Machine.execLdaAbx w s
  | .ldxAby w => Sys2Proof.Machine.execLdxAby w s
  | .fxBF => Sys2Proof.Machine.execFxBF s
  | .cpyImm b => Sys2Proof.Machine.execCpyImm b s
  | .cmpIzx b => Sys2Proof.Machine.execCmpIzx b s
  | .fxC2 => Sys2Proof.Machine.execFxC2 s
  | .fxC3 => Sys2Proof.Machine.execFxC3 s
  | .cpyZp b => Sys2Proof.Machine.execCpyZp b s
  | .cmpZp b => Sys2Proof.Machine.execCmpZp b s
  | .decZp b => Sys2Proof.Machine.execDecZp b s
  | .fxC7 => Sys2Proof.Machine.execFxC7 s
  | .iny => Sys2Proof.Machine.execIny s
  | .cmpImm b => Sys2Proof.Machine.execCmpImm b s
  | .dex => Sys2Proof.Machine.execDex s
  | .fxCB => Sys2Proof.Machine.execFxCB s
  | .cpyAbs w => Sys2Proof.Machine.execCpyAbs w s
  | .cmpAbs w => Sys2Proof.Machine.execCmpAbs w s
  | .decAbs w => Sys2Proof.Machine.execDecAbs w s
  | .fxCF => Sys2Proof.Machine.execFxCF s
  | .bne disp => Sys2Proof.Machine.execBne disp s
  | .cmpIzy b => Sys2Proof.Machine.execCmpIzy b s
  | .fxD2 => Sys2Proof.Machine.execFxD2 s
  | .fxD3 => Sys2Proof.Machine.execFxD3 s
  | .fxD4 => Sys2Proof.Machine.execFxD4 s
  | .cmpZpx b => Sys2Proof.Machine.execCmpZpx b s
  | .decZpx b => Sys2Proof.Machine.execDecZpx b s
  | .fxD7 => Sys2Proof.Machine.execFxD7 s
  | .cld => Sys2Proof.Machine.execCld s
  | .cmpAby w => Sys2Proof.Machine.execCmpAby w s
  | .fxDA => Sys2Proof.Machine.execFxDA s
  | .fxDB => Sys2Proof.Machine.execFxDB s
  | .fxDC => Sys2Proof.Machine.execFxDC s
  | .cmpAbx w => Sys2Proof.Machine.execCmpAbx w s
  | .decAbx w => Sys2Proof.Machine.execDecAbx w s
  | .fxDF => Sys2Proof.Machine.execFxDF s
  | .cpxImm b => Sys2Proof.Machine.execCpxImm b s
  | .sbcIzx b => Sys2Proof.Machine.execSbcIzx b s
  | .fxE2 => Sys2Proof.Machine.execFxE2 s
  | .fxE3 => Sys2Proof.Machine.execFxE3 s
  | .cpxZp b => Sys2Proof.Machine.execCpxZp b s
  | .sbcZp b => Sys2Proof.Machine.execSbcZp b s
  | .incZp b => Sys2Proof.Machine.execIncZp b s
  | .fxE7 => Sys2Proof.Machine.execFxE7 s
  | .inx => Sys2Proof.Machine.execInx s
  | .sbcImm b => Sys2Proof.Machine.execSbcImm b s
  | .nop => Sys2Proof.Machine.execNop s
  | .fxEB => Sys2Proof.Machine.execFxEB s
  | .cpxAbs w => Sys2Proof.Machine.execCpxAbs w s
  | .sbcAbs w => Sys2Proof.Machine.execSbcAbs w s
  | .incAbs w => Sys2Proof.Machine.execIncAbs w s
  | .fxEF => Sys2Proof.Machine.execFxEF s
  | .beq disp => Sys2Proof.Machine.execBeq disp s
  | .sbcIzy b => Sys2Proof.Machine.execSbcIzy b s
  | .fxF2 => Sys2Proof.Machine.execFxF2 s
  | .fxF3 => Sys2Proof.Machine.execFxF3 s
  | .fxF4 => Sys2Proof.Machine.execFxF4 s
  | .sbcZpx b => Sys2Proof.Machine.execSbcZpx b s
  | .incZpx b => Sys2Proof.Machine.execIncZpx b s
  | .fxF7 => Sys2Proof.Machine.execFxF7 s
  | .sed => Sys2Proof.Machine.execSed s
  | .sbcAby w => Sys2Proof.Machine.execSbcAby w s
  | .fxFA => Sys2Proof.Machine.execFxFA s
  | .fxFB => Sys2Proof.Machine.execFxFB s
  | .fxFC => Sys2Proof.Machine.execFxFC s
  | .sbcAbx w => Sys2Proof.Machine.execSbcAbx w s
  | .incAbx w => Sys2Proof.Machine.execIncAbx w s
  | .fxFF => Sys2Proof.Machine.execFxFF s

end Sys2Proof.Machine
end

