-- ==== Sys2Proof/Machine/TiaMotion.lean ====
section
/-! DEFINITION. Horizontal motion and the collision latches (49_tia_motion_collision.md). -/

namespace Sys2Proof.Machine

/-! ## Horizontal motion -/

/-- `clamp(v, 0, 159)` (00_scope.md R10). -/
def clampColumn (v : Int) : Fin 160 :=
  if v < 0 then 0 else if h : v ≤ 159 then ⟨v.toNat, by omega⟩ else 159

/-- `HMOVE_DIR` as a number (R420, D24). -/
def directionOf : HmoveDir → Int
  | .right => 1
  | .left => -1

/-- `s.x <- clamp(s.x + HMOVE_DIR * s.hm, 0, 159)`; the delta is kept (R420, 70_reset_and_hazards.md R490). -/
def Sprite.move {size : Nat} (dir : HmoveDir) (s : Sprite size) : Sprite size :=
  { s with x := clampColumn (s.x.val + directionOf dir * s.hm.toInt) }

/-- `s.hm <- 0` (R421). -/
def Sprite.clearMotion {size : Nat} (s : Sprite size) : Sprite size := { s with hm := 0 }

/-- HMOVE: all five sprites in one atomic step (R420). -/
def Tia.hmove (dir : HmoveDir) (t : Tia) : Tia :=
  { t with bl := t.bl.move dir, p0 := t.p0.move dir, p1 := t.p1.move dir, m0 := t.m0.move dir, m1 := t.m1.move dir }

/-- HMCLR: all pending deltas, no position (R421). -/
def Tia.hmclr (t : Tia) : Tia :=
  { t with bl := t.bl.clearMotion, p0 := t.p0.clearMotion, p1 := t.p1.clearMotion, m0 := t.m0.clearMotion, m1 := t.m1.clearMotion }

/-! ## Collisions -/

/-- The two objects of a category (10_state.md R37). -/
def Pair.objects : Pair → Obj × Obj
  | .pfBl => (.pf, .bl)
  | .pfP0 => (.pf, .p0)
  | .pfM0 => (.pf, .m0)
  | .pfP1 => (.pf, .p1)
  | .pfM1 => (.pf, .m1)
  | .blP0 => (.bl, .p0)
  | .blM0 => (.bl, .m0)
  | .blP1 => (.bl, .p1)
  | .blM1 => (.bl, .m1)
  | .p0M0 => (.p0, .m0)
  | .p0P1 => (.p0, .p1)
  | .p0M1 => (.p0, .m1)
  | .m0P1 => (.m0, .p1)
  | .m0M1 => (.m0, .m1)
  | .p1M1 => (.p1, .m1)

/-- The fifteen categories (10_state.md R37). -/
def allPairs : List Pair :=
  [.pfBl, .pfP0, .pfM0, .pfP1, .pfM1, .blP0, .blM0, .blP1, .blM1, .p0M0, .p0P1, .p0M1, .m0P1, .m0M1, .p1M1]

/-- The fixed collision participation of an object: the five categories that name it (10_state.md R35, R37). -/
def Obj.participation (o : Obj) : List Pair := allPairs.filter fun p => p.objects.1 = o || p.objects.2 = o

/-- Is a category in the set? -/
def Collisions.has (k : Collisions) : Pair → Bool
  | .pfBl => k.pfBl
  | .pfP0 => k.pfP0
  | .pfM0 => k.pfM0
  | .pfP1 => k.pfP1
  | .pfM1 => k.pfM1
  | .blP0 => k.blP0
  | .blM0 => k.blM0
  | .blP1 => k.blP1
  | .blM1 => k.blM1
  | .p0M0 => k.p0M0
  | .p0P1 => k.p0P1
  | .p0M1 => k.p0M1
  | .m0P1 => k.m0P1
  | .m0M1 => k.m0M1
  | .p1M1 => k.p1M1

/-- The set of the categories that a test picks. -/
def Collisions.ofTest (f : Pair → Bool) : Collisions where
  pfBl := f .pfBl
  pfP0 := f .pfP0
  pfM0 := f .pfM0
  pfP1 := f .pfP1
  pfM1 := f .pfM1
  blP0 := f .blP0
  blM0 := f .blM0
  blP1 := f .blP1
  blM1 := f .blM1
  p0M0 := f .p0M0
  p0P1 := f .p0P1
  p0M1 := f .p0M1
  m0P1 := f .m0P1
  m0M1 := f .m0M1
  p1M1 := f .p1M1

/-- Set union. -/
def Collisions.union (k l : Collisions) : Collisions := .ofTest fun p => k.has p || l.has p

/-- The six "on" signals of one column (48_tia_compositor.md R388). -/
structure On where
  pf : Bool
  bl : Bool
  p0 : Bool
  m0 : Bool
  p1 : Bool
  m1 : Bool
  deriving DecidableEq, Repr

/-- The signal of an object. -/
def On.get (on : On) : Obj → Bool
  | .pf => on.pf
  | .bl => on.bl
  | .p0 => on.p0
  | .m0 => on.m0
  | .p1 => on.p1
  | .m1 => on.m1

/-- `pairs(on)`: the categories both of whose objects are on (R422). -/
def On.pairs (on : On) : Collisions := .ofTest fun p => on.get p.objects.1 && on.get p.objects.2

/-- CXCLR: `collisionState <- {}` (R424). -/
def Tia.cxclr (t : Tia) : Tia := { t with collisions := .none }

end Sys2Proof.Machine
end

