-- ==== Sys2Proof/Machine/TiaCompositor.lean ====
section
/-! DEFINITION. The TIA's clock, the per-pixel compositor and the scanline (48_tia_compositor.md). -/

namespace Sys2Proof.Machine

/-- The number a `scale` or `spacing` stands for. -/
def Factor.toNat : Factor → Nat
  | .x1 => 1
  | .x2 => 2
  | .x4 => 4
  | .x8 => 8

/-- The number a `copies` stands for. -/
def Copies.toNat : Copies → Nat
  | .one => 1
  | .two => 2
  | .three => 3

/-! ## Playfield -/

/-- The block shown at a column (R384). -/
def Tia.pfIndex (t : Tia) (c : Fin 160) : Nat :=
  if c.val < 80 then c.val / 4
  else if t.mirror then (159 - c.val) / 4
  else (c.val - 80) / 4

/-- `pfOn(c)` (R384). -/
def Tia.pfOn (t : Tia) (c : Fin 160) : Bool := t.pf.getLsbD (t.pfIndex c)

/-- `pfColour(c)` (R385). -/
def Tia.pfColour (t : Tia) (c : Fin 160) : Byte :=
  if t.score then (if c.val < 80 then t.colup0 else t.colup1) else t.colupf

/-! ## Sprites -/

/-- `bit(s, p)` (R387). -/
def Sprite.patternBit {size : Nat} (s : Sprite size) (p : Nat) : Bool :=
  if s.mirror then s.bits.getLsbD p else s.bits.getLsbD (size - 1 - p)

/-- The width of one copy, `size * scale` (R386). -/
def Sprite.width {size : Nat} (s : Sprite size) : Nat := size * s.scale.toNat

/-- Where copy `k` starts, `k` counted from 0: `x + k * size * scale * spacing` (R386). -/
def Sprite.copyStart {size : Nat} (s : Sprite size) (k : Nat) : Nat := s.x.val + k * (s.width * s.spacing.toNat)

/-- Does copy `k`, counted from 0, draw column `c` (R386)? -/
def Sprite.copyDrawn {size : Nat} (s : Sprite size) (k : Nat) (c : Fin 160) : Bool :=
  s.copyStart k ≤ c.val && c.val < s.copyStart k + s.width && s.patternBit ((c.val - s.copyStart k) / s.scale.toNat)

/-- `drawn(s, c)` (R386). -/
def Sprite.drawn {size : Nat} (s : Sprite size) (c : Fin 160) : Bool :=
  if c.val < s.x.val || s.delayed then false else (List.range s.copies.toNat).any fun k => s.copyDrawn k c

/-! ## Composition -/

/-- The six "on" signals of a column (R388). -/
def Tia.onAt (t : Tia) (c : Fin 160) : On where
  pf := t.pfOn c
  bl := t.bl.drawn c
  p0 := t.p0.drawn c
  m0 := t.m0.drawn c
  p1 := t.p1.drawn c
  m1 := t.m1.drawn c

/-- The colour of `composite(c)`: each later object that is on wins (R388 to R390). -/
def Tia.colourAt (t : Tia) (c : Fin 160) : Byte :=
  let on := t.onAt c
  let colour := t.colubk
  let colour := if on.pf && !t.pfPriority then t.pfColour c else colour
  let colour := if on.bl then t.colupf else colour
  let colour := if on.p1 then t.colup1 else colour
  let colour := if on.m1 then t.colup1 else colour
  let colour := if on.p0 then t.colup0 else colour
  let colour := if on.m0 then t.colup0 else colour
  if on.pf && t.pfPriority then t.pfColour c else colour

/-! ## Clocking -/

/-- Draw one column: the output entry and the collision latches (R380, R391, 49_tia_motion_collision.md R423). -/
def Tia.drawColumn (t : Tia) (c : Fin 160) : Tia :=
  { t with scanline := t.scanline.set c.val (t.colourAt c), collisions := t.collisions.union (t.onAt c).pairs }

/-- What a tick draws: the column of the clock value it starts with, nothing in horizontal blank (R380, R383). -/
def Tia.draw (t : Tia) : Tia :=
  if h : 68 ≤ t.colorClock.val then t.drawColumn ⟨t.colorClock.val - 68, by omega⟩ else t

/-- `nextClockTick()` and what it returns, "scanline complete" (R380). -/
def Tia.nextClockTick (t : Tia) : Tia × Bool :=
  if h : t.colorClock.val + 1 = 228 then ({ t.draw with colorClock := 0 }, true)
  else ({ t.draw with colorClock := ⟨t.colorClock.val + 1, by omega⟩ }, false)

/-- Ticks until one returns "scanline complete", at most `fuel` of them. -/
def Tia.tickToLineEnd : Nat → Tia → Tia
  | 0, t => t
  | fuel + 1, t =>
    let (t, done) := t.nextClockTick
    if done then t else t.tickToLineEnd fuel

/-- `renderScanline()`; "at most 228 ticks" (R381). -/
def Tia.renderScanline (t : Tia) : Tia := t.tickToLineEnd 228

/-- Ticks while the clock is not `target`, at most `fuel` of them. -/
def Tia.tickToClock (target : Fin 228) : Nat → Tia → Tia
  | 0, t => t
  | fuel + 1, t => if t.colorClock = target then t else t.nextClockTick.1.tickToClock target fuel

/-- `runToClock(target)`; "at most 227 ticks" (R382). -/
def Tia.runToClock (target : Fin 228) (t : Tia) : Tia := t.tickToClock target 227

end Sys2Proof.Machine
end

