-- ==== Sys2Proof/Machine/TiaRegisters.lean ====
section
/-! DEFINITION. The TIA's two bus ports and every register behind them (47_tia_registers.md). -/

namespace Sys2Proof.Machine

/-- The write registers, in the order of their addresses 0x00 to 0x2C (section 5). -/
inductive WriteReg where
  | vsync | vblank | wsync | rsync | nusiz0 | nusiz1 | colup0 | colup1 | colupf | colubk | ctrlpf | refp0
  | refp1 | pf0 | pf1 | pf2 | resp0 | resp1 | resm0 | resm1 | resbl | audc0 | audc1 | audf0 | audf1 | audv0
  | audv1 | grp0 | grp1 | enam0 | enam1 | enabl | hmp0 | hmp1 | hmm0 | hmm1 | hmbl | vdelp0 | vdelp1 | vdelbl
  | resmp0 | resmp1 | hmove | hmclr | cxclr
  deriving DecidableEq, Repr

/-- The read registers, in the order of their addresses 0x30 to 0x3D (section 5). -/
inductive ReadReg where
  | cxm0p | cxm1p | cxp0fb | cxp1fb | cxm0fb | cxm1fb | cxblpf | cxppmm | inpt0 | inpt1 | inpt2 | inpt3
  | inpt4 | inpt5
  deriving DecidableEq, Repr

/-- The write register at an address: an exact match, no mirroring (R320, R362). -/
def writeRegAt : Nat → Option WriteReg
  | 0x00 => some .vsync
  | 0x01 => some .vblank
  | 0x02 => some .wsync
  | 0x03 => some .rsync
  | 0x04 => some .nusiz0
  | 0x05 => some .nusiz1
  | 0x06 => some .colup0
  | 0x07 => some .colup1
  | 0x08 => some .colupf
  | 0x09 => some .colubk
  | 0x0A => some .ctrlpf
  | 0x0B => some .refp0
  | 0x0C => some .refp1
  | 0x0D => some .pf0
  | 0x0E => some .pf1
  | 0x0F => some .pf2
  | 0x10 => some .resp0
  | 0x11 => some .resp1
  | 0x12 => some .resm0
  | 0x13 => some .resm1
  | 0x14 => some .resbl
  | 0x15 => some .audc0
  | 0x16 => some .audc1
  | 0x17 => some .audf0
  | 0x18 => some .audf1
  | 0x19 => some .audv0
  | 0x1A => some .audv1
  | 0x1B => some .grp0
  | 0x1C => some .grp1
  | 0x1D => some .enam0
  | 0x1E => some .enam1
  | 0x1F => some .enabl
  | 0x20 => some .hmp0
  | 0x21 => some .hmp1
  | 0x22 => some .hmm0
  | 0x23 => some .hmm1
  | 0x24 => some .hmbl
  | 0x25 => some .vdelp0
  | 0x26 => some .vdelp1
  | 0x27 => some .vdelbl
  | 0x28 => some .resmp0
  | 0x29 => some .resmp1
  | 0x2A => some .hmove
  | 0x2B => some .hmclr
  | 0x2C => some .cxclr
  | _ => none

/-- The read register at an address: an exact match, no mirroring (R321, R372). -/
def readRegAt : Nat → Option ReadReg
  | 0x30 => some .cxm0p
  | 0x31 => some .cxm1p
  | 0x32 => some .cxp0fb
  | 0x33 => some .cxp1fb
  | 0x34 => some .cxm0fb
  | 0x35 => some .cxm1fb
  | 0x36 => some .cxblpf
  | 0x37 => some .cxppmm
  | 0x38 => some .inpt0
  | 0x39 => some .inpt1
  | 0x3A => some .inpt2
  | 0x3B => some .inpt3
  | 0x3C => some .inpt4
  | 0x3D => some .inpt5
  | _ => none

/-! ## Field decoders -/

/-- `(scale, copies, spacing)` of a player geometry code (R373); code 7 is quad-size. -/
def geometry (n : BitVec 3) : Factor × Copies × Factor :=
  match n.toNat with
  | 0 => (.x1, .one, .x1)
  | 1 => (.x1, .two, .x2)
  | 2 => (.x1, .two, .x4)
  | 3 => (.x1, .three, .x2)
  | 4 => (.x1, .two, .x8)
  | 5 => (.x2, .one, .x1)
  | 6 => (.x1, .three, .x4)
  | _ => (.x4, .one, .x1)

/-- `1 << k` of a size exponent (R376). -/
def sizeOf (k : BitVec 2) : Factor :=
  match k.toNat with
  | 0 => .x1
  | 1 => .x2
  | 2 => .x4
  | _ => .x8

/-- Bits 5..4 of a byte. -/
def sizeBits (v : Byte) : BitVec 2 := v.extractLsb' 4 2

/-- The motion nibble, bits 7..4 (R374); `hm.toInt` is its signed value `snib`. -/
def motionBits (v : Byte) : BitVec 4 := v.extractLsb' 4 4

/-- The column a position strobe captures: the one the next tick draws, or `HBLANK_RESET_COLUMN` in horizontal blank (R375, D23). -/
def currentColumn (cfg : Config) (t : Tia) : Fin 160 :=
  if h : 68 ≤ t.colorClock.val then ⟨t.colorClock.val - 68, by omega⟩ else cfg.hblankResetColumn

/-- A player with a new geometry code (R326, R327, R373). -/
def Sprite.setGeometry {size : Nat} (n : BitVec 3) (s : Sprite size) : Sprite size :=
  { s with scale := (geometry n).1, copies := (geometry n).2.1, spacing := (geometry n).2.2 }

/-- `pf[0..3] <- v[4..7]` (R335). -/
def putPf0 (v : Byte) (pf : BitVec 20) : BitVec 20 := pf.extractLsb' 4 16 ++ v.extractLsb' 4 4

/-- `pf[4+i] <- v[7-i]` for i = 0..7 (R336). -/
def putPf1 (v : Byte) (pf : BitVec 20) : BitVec 20 := pf.extractLsb' 12 8 ++ v.reverse ++ pf.extractLsb' 0 4

/-- `pf[12+i] <- v[i]` for i = 0..7 (R337). -/
def putPf2 (v : Byte) (pf : BitVec 20) : BitVec 20 := v ++ pf.extractLsb' 0 12

/-! ## Writing a register -/

/-- What writing a register does (R322 to R361). VSYNC, VBLANK, WSYNC, RSYNC, the audio registers and RESMPx are accepted and
ignored (D29). -/
def Tia.write (cfg : Config) (r : WriteReg) (v : Byte) (t : Tia) : Tia :=
  match r with
  | .vsync => t
  | .vblank => t
  | .wsync => t
  | .rsync => t
  | .nusiz0 => { t with p0 := t.p0.setGeometry (v.extractLsb' 0 3), m0 := { t.m0 with scale := sizeOf (sizeBits v) } }
  | .nusiz1 => { t with p1 := t.p1.setGeometry (v.extractLsb' 0 3), m1 := { t.m1 with scale := sizeOf (sizeBits v) } }
  | .colup0 => { t with colup0 := v }
  | .colup1 => { t with colup1 := v }
  | .colupf => { t with colupf := v }
  | .colubk => { t with colubk := v }
  | .ctrlpf =>
    { t with mirror := v.getLsbD 0, score := v.getLsbD 1, pfPriority := v.getLsbD 2
             bl := { t.bl with scale := sizeOf (sizeBits v) } }
  | .refp0 => { t with p0 := { t.p0 with mirror := v.getLsbD 3 } }
  | .refp1 => { t with p1 := { t.p1 with mirror := v.getLsbD 3 } }
  | .pf0 => { t with pf := putPf0 v t.pf }
  | .pf1 => { t with pf := putPf1 v t.pf }
  | .pf2 => { t with pf := putPf2 v t.pf }
  | .resp0 => { t with p0 := { t.p0 with x := currentColumn cfg t } }
  | .resp1 => { t with p1 := { t.p1 with x := currentColumn cfg t } }
  | .resm0 => { t with m0 := { t.m0 with x := currentColumn cfg t } }
  | .resm1 => { t with m1 := { t.m1 with x := currentColumn cfg t } }
  | .resbl => { t with bl := { t.bl with x := currentColumn cfg t } }
  | .audc0 => t
  | .audc1 => t
  | .audf0 => t
  | .audf1 => t
  | .audv0 => t
  | .audv1 => t
  | .grp0 => { t with p0 := { t.p0 with bits := v } }
  | .grp1 => { t with p1 := { t.p1 with bits := v } }
  | .enam0 => { t with m0 := { t.m0 with bits := v.extractLsb' 1 1 } }
  | .enam1 => { t with m1 := { t.m1 with bits := v.extractLsb' 1 1 } }
  | .enabl => { t with bl := { t.bl with bits := v.extractLsb' 1 1 } }
  | .hmp0 => { t with p0 := { t.p0 with hm := motionBits v } }
  | .hmp1 => { t with p1 := { t.p1 with hm := motionBits v } }
  | .hmm0 => { t with m0 := { t.m0 with hm := motionBits v } }
  | .hmm1 => { t with m1 := { t.m1 with hm := motionBits v } }
  | .hmbl => { t with bl := { t.bl with hm := motionBits v } }
  | .vdelp0 => { t with p0 := { t.p0 with delayed := v.getLsbD 0 } }
  | .vdelp1 => { t with p1 := { t.p1 with delayed := v.getLsbD 0 } }
  | .vdelbl => { t with bl := { t.bl with delayed := v.getLsbD 0 } }
  | .resmp0 => t
  | .resmp1 => t
  | .hmove => t.hmove cfg.hmoveDir
  | .hmclr => t.hmclr
  | .cxclr => t.cxclr

/-- `writeRegister(addr, v)`: any other address is ignored (R320, R362). -/
def Tia.writeRegister (cfg : Config) (addr : Nat) (v : Byte) (t : Tia) : Tia :=
  match writeRegAt addr with
  | some r => t.write cfg r v
  | none => t

/-! ## Reading a register -/

/-- `128*bit7 + 64*bit6`: the low six bits read 0 (section 4, D29). -/
def collisionByte (bit7 bit6 : Bool) : Byte := BitVec.ofBool bit7 ++ BitVec.ofBool bit6 ++ 0#6

/-- What reading a register gives (R363 to R371). -/
def Tia.read (r : ReadReg) (t : Tia) : Byte :=
  match r with
  | .cxm0p => collisionByte (t.collisions.has .m0P1) (t.collisions.has .p0M0)
  | .cxm1p => collisionByte (t.collisions.has .p0M1) (t.collisions.has .p1M1)
  | .cxp0fb => collisionByte (t.collisions.has .pfP0) (t.collisions.has .blP0)
  | .cxp1fb => collisionByte (t.collisions.has .pfP1) (t.collisions.has .blP1)
  | .cxm0fb => collisionByte (t.collisions.has .pfM0) (t.collisions.has .blM0)
  | .cxm1fb => collisionByte (t.collisions.has .pfM1) (t.collisions.has .blM1)
  | .cxblpf => collisionByte (t.collisions.has .pfBl) false
  | .cxppmm => collisionByte (t.collisions.has .p0P1) (t.collisions.has .m0M1)
  | .inpt0 => 0
  | .inpt1 => 0
  | .inpt2 => 0
  | .inpt3 => 0
  | .inpt4 => 0
  | .inpt5 => 0

/-- `readRegister(addr)`: any other address reads 0x00; a read has no side effect (R321, R372). -/
def Tia.readRegister (addr : Nat) (t : Tia) : Byte :=
  match readRegAt addr with
  | some r => t.read r
  | none => 0

end Sys2Proof.Machine
end

