-- ==== Sys2Proof/Machine/Platform.lean ====
section
/-! DEFINITION. What the platform can call: the CPU's step and run-to-break (40_cpu_engine.md R150 to R152), the TIA's clock and
ports (47, 48), the inspection and debug ports (60_exceptions.md R461, R462, 10_state.md R28), and the placing of an
instruction where the CPU fetches (70_reset_and_hazards.md R484). -/

namespace Sys2Proof.Machine

/-! ## The CPU -/

/-- The instruction at an address: the opcode byte, then every operand byte of its size in ascending order, whether or not
it ends up used, and the state after these reads (20_memory.md R74, 40_cpu_engine.md R150, R151). -/
def fetchAt (addr : Word) (s : State) : Except Fault (Instr × State) := do
  let (op, s) ← busRead addr s
  match formatOf op with
  | .f1 i => .ok (i, s)
  | .f2 mk => do
    let (b1, s) ← busRead (addr + 1) s
    .ok (mk b1, s)
  | .f3 mk => do
    let (b1, s) ← busRead (addr + 1) s
    let (b2, s) ← busRead (addr + 2) s
    .ok (mk (wordOf b1 b2), s)

/-- `step()` (40_cpu_engine.md R150). -/
def cpuStep (s : State) : Result :=
  match fetchAt s.cpu.ip s with
  | .ok (i, s) => exec i s
  | .error f => .fault f

/-- `BREAK_OPCODE` (00_scope.md R7). -/
def breakOpcode : Byte := 0x00

/-- The steps left after one more, when there is a limit. -/
def stepsLeftAfterOne (left : Option Nat) : Option Nat := left.map (· - 1)

/-- One pass of the loop of `runToBreak` (40_cpu_engine.md R152): peek at the opcode, a read of its own; the break opcode ends the run
unexecuted, and is tested first (60_exceptions.md R452, log 11); else the limit may end it; else one step, and the run goes on. -/
def runPass (left : Option Nat) (s : State) : Result :=
  match busRead s.cpu.ip s with
  | .error f => .fault f
  | .ok (op, s) =>
    if op = breakOpcode then .next (s.emit .breakReached)
    else if left = some 0 then .next (s.emit .limitReached)
    else cpuStep { s with schedule := .continueRun (stepsLeftAfterOne left) :: s.schedule }

/-- `if start given: IP <- start` (40_cpu_engine.md R152). -/
def State.startAt (start : Option Word) (s : State) : State :=
  match start with
  | some ip => { s with cpu := { s.cpu with ip := ip } }
  | none => s

/-! ## Inspection and debug ports -/

/-- What an inspection name stands for, and the state after it (60_exceptions.md R462); the "M" probe is "a memory-manager read
with whatever side effect the manager gives reads", the others change nothing. What a refused read does here the spec leaves open: a fault (DESIGN CHOICE, log 16). -/
def probeValue (name : Probe) (s : State) : Except Fault (Nat × State) :=
  match name with
  | .a => .ok (s.cpu.a.toNat, s)
  | .x => .ok (s.cpu.x.toNat, s)
  | .y => .ok (s.cpu.y.toNat, s)
  | .sp => .ok (s.cpu.sp.toNat, s)
  | .ip => .ok (s.cpu.ip.toNat, s)
  | .c => .ok ((s.flag .c).toNat, s)
  | .z => .ok ((s.flag .z).toNat, s)
  | .i => .ok ((s.flag .i).toNat, s)
  | .d => .ok ((s.flag .d).toNat, s)
  | .b => .ok ((s.flag .b).toNat, s)
  | .v => .ok ((s.flag .v).toNat, s)
  | .n => .ok ((s.flag .n).toNat, s)
  | .flags => .ok (s.cpu.p.toNat, s)
  | .m addr => do
    let (v, s) ← busRead addr s
    .ok (v.toNat, s)

/-- The copy of the ProcessorState (10_state.md R28). -/
def Cpu.snapshot (c : Cpu) : Snapshot := { a := c.a, x := c.x, y := c.y, sp := c.sp, p := c.p, ip := c.ip, tick := c.tick }

/-! ## One call -/

/-- Replace the TIA's state. -/
def State.withTia (t : Tia) (s : State) : State := { s with tia := t }

/-- The effect of one call of the platform, taken off the schedule (00_scope.md R6, 20_memory.md R84). A refused read of the two
debug ports ends the machine as one of the CPU does: 60_exceptions.md R461 and R462 give it no outcome (DESIGN CHOICE, log 16). -/
def perform (call : Call) (s : State) : Result :=
  match call with
  | .cpuStep => cpuStep s
  | .runToBreak start => runPass s.cfg.runStepLimit (s.startAt start)
  | .continueRun left => runPass left s
  | .nextClockTick => .next ((s.withTia s.tia.nextClockTick.1).emit (.ticked s.tia.nextClockTick.2))
  | .renderScanline => .next (s.withTia s.tia.renderScanline)
  | .runToClock target => .next (s.withTia (s.tia.runToClock target))
  | .writeRegister addr v => .next (s.withTia (s.tia.writeRegister s.cfg addr v))
  | .readRegister addr => .next (s.emit (.registerRead addr (s.tia.readRegister addr)))
  | .inspect name =>
    match probeValue name s with
    | .ok (v, t) => .next (t.emit (.inspected name v))
    | .error f => .fault f
  | .snapshot => .next (s.emit (.snapshot s.cpu.snapshot))
  | .disassembleStep addr =>
    match fetchAt addr s with
    | .ok (i, t) => .next (t.emit (.disassembled addr i))
    | .error f => .fault f

/-! ## Placing an instruction -/

/-- The set with one more address. -/
def backAlso (b : Backing) (addr : Word) : Backing :=
  match b with
  | .all => .all
  | .regions rs => if backs (.regions rs) addr then .regions rs else .regions (⟨addr.toNat, 1⟩ :: rs)

/-- A byte placed in storage by the platform, the memory manager made to read its address from there if it does not. -/
def placeByte (addr : Word) (v : Byte) (s : State) : State :=
  { s with mem := s.mem.write addr.toNat v
           cfg := { s.cfg with manager := { s.cfg.manager with readable := backAlso s.cfg.manager.readable addr } } }

/-- The instruction whose bits are the low `nbits` of `w`, its first byte the lowest, placed at IP with zero bytes up to the
longest instruction, and no call pending, so that the next step fetches it (70_reset_and_hazards.md R484, log 14). -/
def placeInstr (nbits w : Nat) (s : State) : State :=
  let v := w % 2 ^ nbits
  let s := placeByte s.cpu.ip (BitVec.ofNat 8 v) s
  let s := placeByte (s.cpu.ip + 1) (BitVec.ofNat 8 (v / 256)) s
  let s := placeByte (s.cpu.ip + 2) (BitVec.ofNat 8 (v / 65536)) s
  { s with schedule := [] }

end Sys2Proof.Machine
end

