-- ==== Sys2Proof/Machine/Step.lean ====
section
/-! DEFINITION. One step of the machine: the next call of the schedule, and with nothing scheduled the CPU's `step()` (log 8). -/

namespace Sys2Proof.Machine

/-- One step. The caller chooses which unit acts (20_memory.md R84, 92_eei_decisions.md D34). -/
def step (s : State) : Host.Outcome State Fault Refusal :=
  match s.schedule with
  | [] => cpuStep s
  | call :: rest => perform call { s with schedule := rest }

/-- The state with an instruction placed where `step` fetches the next one (log 14). -/
def State.withFetchWord (s : State) (nbits w : Nat) : State := placeInstr nbits w s

end Sys2Proof.Machine
end

