-- ==== Sys2Proof/Safety.lean ====
section
/-! DEFINITION. What claims about runs are stated in: completing, the end of a run, and the invariant of the machine. -/

namespace Sys2Proof.Machine

/-- The step or instruction answers a next state. -/
def Completes (r : Result) : Prop := ∃ t, r = .next t

/-- `n` steps of the machine from `s` end in `t`, with no fault on the way. -/
def RunsTo (n : Nat) (s t : State) : Prop := Sys2Proof.core.run n s = .next t

/-- `t` can be reached from `s`. -/
def Reaches (s t : State) : Prop := ∃ n, RunsTo n s t

/-- A player's `(scale, copies, spacing)` is one of the eight triples of 47_tia_registers.md R373. -/
def Sprite.legalPlayer (p : Sprite 8) : Prop := ∃ n, (p.scale, p.copies, p.spacing) = geometry n

/-- A missile or the ball is one copy and never mirrored (10_state.md R35). -/
def Sprite.legalSingle (s : Sprite 1) : Prop := s.copies = .one ∧ s.spacing = .x1 ∧ s.mirror = false

/-- The value sets of 10_state.md R35 that the types alone do not fix; a missile is never delayed. -/
def Tia.Legal (t : Tia) : Prop :=
  t.p0.legalPlayer ∧ t.p1.legalPlayer ∧ t.bl.legalSingle ∧
  (t.m0.legalSingle ∧ t.m0.delayed = false) ∧ (t.m1.legalSingle ∧ t.m1.delayed = false)

/-- The invariant of the machine: memory in canonical form, and every sprite inside its value sets. -/
def Inv (s : State) : Prop := s.mem.wf ∧ s.tia.Legal

end Sys2Proof.Machine
end

