-- ==== Sys2Proof/Certificates/Slice0/Obligations.lean ====
section
/-! DEFINITION. What is claimed of the machine, one `Obligations.<Name>` each, in the order of the spec: encoding and stepping, addressing, each family
of instructions, the whole-machine rules, reset, runs, the TIA. Results are stated in plain numbers and in flags read one by one, not in the model's own
flag operations; a next state is given whole, so that each statement is also the frame of its instructions. A statement whose rule carries one of the
spec's own decisions (D1 to D38) has basis derived and names the decision. -/

namespace Sys2Proof.Stated

open Sys2Proof.Machine

/-! ## The words of the statements -/

/-- `i` is encoded by exactly these bytes, and they decode to it whatever follows. -/
def Encodes (i : Instr) (bs : List Byte) : Prop := encode i = bs ∧ ∀ rest, decode (bs ++ rest) = .ok (i, rest)

/-- The state one instruction of `size` bytes later, `cycles` cycles on (40_cpu_engine.md R150). -/
def advanced (size cycles : Nat) (s : State) : State :=
  { s with cpu := { s.cpu with
      ip := BitVec.ofNat 16 (s.cpu.ip.toNat + size), nip := BitVec.ofNat 16 (s.cpu.ip.toNat + size), tick := s.cpu.tick + cycles } }

/-- The state after a control transfer to `target`, `cycles` cycles on. -/
def jumped (target cycles : Nat) (s : State) : State :=
  { s with cpu := { s.cpu with ip := BitVec.ofNat 16 target, nip := BitVec.ofNat 16 target, tick := s.cpu.tick + cycles } }

/-- The status byte `q` is `p` with the flags that `w` gives a value written, and no other. -/
def FlagsWritten (w : Flag → Option Bool) (p q : Byte) : Prop := ∀ f, getFlag f q = (w f).getD (getFlag f p)

/-- N and Z written from the byte `v` (40_cpu_engine.md R172). -/
def nzOf (v : Byte) : Flag → Option Bool
  | .n => some (decide (128 ≤ v.toNat))
  | .z => some (decide (v.toNat = 0))
  | _ => none

/-- N and Z written from `v`, and C written. -/
def nzcOf (v : Byte) (c : Bool) : Flag → Option Bool
  | .c => some c
  | f => nzOf v f

/-- N and Z written from `v`, and C and V written. -/
def nzcvOf (v : Byte) (c o : Bool) : Flag → Option Bool
  | .v => some o
  | f => nzcOf v c f

/-- One flag written. -/
def only (g : Flag) (v : Bool) (f : Flag) : Option Bool := if f = g then some v else none

/-- A read of `a` that is answered `v` and leaves `u`: from storage, which changes nothing, or else by the script, whose answer is used up and the read put on
record (20_memory.md R70, log 6). -/
def ReadGives (a : Word) (v : Byte) (s u : State) : Prop :=
  if backs s.cfg.manager.readable a then v = s.mem.read a.toNat ∧ u = s
  else backs s.cfg.manager.scripted a = true ∧ ∃ rest, s.bus.script = .accepts v :: rest ∧
    u = { s with bus := { script := rest, asked := .read a :: s.bus.asked } }

/-- A write of `v` at `a` that leaves `u`: to storage, where that address then reads `v` and every other one reads as before, or else to the script, whose
answer is used up and the write put on record, with storage as it was (20_memory.md R70, log 6). -/
def Stored (a : Word) (v : Byte) (s u : State) : Prop :=
  if backs s.cfg.manager.writable a then
    u = { s with mem := u.mem } ∧ u.mem.read a.toNat = v ∧ ∀ b, b ≠ a.toNat → u.mem.read b = s.mem.read b
  else backs s.cfg.manager.scripted a = true ∧ ∃ w rest, s.bus.script = .accepts w :: rest ∧
    u = { s with bus := { script := rest, asked := .write a v :: s.bus.asked } }

/-- The script has no answer for an access to `a`: the address is not scripted, or the next answer is a refusal, or there is none. -/
def Unanswered (a : Word) (s : State) : Prop :=
  backs s.cfg.manager.scripted a = false ∨ ∀ v rest, s.bus.script ≠ .accepts v :: rest

/-- Storage does not answer every access to `a`. -/
def NotStored (a : Word) (s : State) : Prop :=
  backs s.cfg.manager.readable a = false ∨ backs s.cfg.manager.writable a = false

/-- Storage answers every access: "a memory manager that backs all 65536 addresses" (20_memory.md R76). -/
def Backed (s : State) : Prop := s.cfg.manager.readable = .all ∧ s.cfg.manager.writable = .all

/-- The bytes `bs` are read one by one from `a` on, from `s` to `t`. -/
def ReadsInTurn : Word → List Byte → State → State → Prop
  | _, [], s, t => t = s
  | a, b :: bs, s, t => ∃ u, busRead a s = .ok (b, u) ∧ ReadsInTurn (BitVec.ofNat 16 (a.toNat + 1)) bs u t

/-- The address of stack byte `sp` (10_state.md R21). -/
def stackByte (s : State) (sp : Byte) : Word := BitVec.ofNat 16 (s.cfg.stackPage.toNat * 256 + sp.toNat)

/-- The operand bytes of a memory operand, the low byte first. -/
def memBytes : MemOperand → List Byte
  | .zp b | .zpx b | .zpy b | .izx b | .izy b => [b]
  | .abs w | .abx w | .aby w => [BitVec.ofNat 8 w.toNat, BitVec.ofNat 8 (w.toNat / 256)]

/-- The operand bytes of a reading instruction. -/
def readBytes : ReadOperand → List Byte
  | .imm v => [v]
  | .mem m => memBytes m

/-- A row of the opcode map of an instruction that reads an operand: opcode, instruction, operand, base cycles. -/
structure ReadRow where
  op : Byte
  instr : Instr
  operand : ReadOperand
  cycles : Nat

/-- A row of an instruction that stores to a memory operand. -/
structure MemRow where
  op : Byte
  instr : Instr
  operand : MemOperand
  cycles : Nat

/-- Every row is encoded as listed; on a state that meets `pre` and whose operand reads as `m`, leaving `s'`, it completes with `effect s' m u`, IP past the
instruction and TICK on by the base cycles and the operand's penalty; where the operand is refused it stops with that fault. -/
def ReadsAs (rows : Byte → Word → List ReadRow) (pre : State → Prop) (effect : State → Byte → State → Prop) : Prop :=
  ∀ b w, ∀ row ∈ rows b w, Encodes row.instr (row.op :: readBytes row.operand) ∧ ∀ s, pre s →
    (∀ m extra s', row.operand.read s = .ok ((m, extra), s') →
      ∃ u, effect s' m u ∧ exec row.instr s = .next (advanced row.operand.size (row.cycles + extra) u)) ∧
    (∀ f, row.operand.read s = .error f → exec row.instr s = .fault f)

/-- Every row is encoded as listed and completes, storing `value s` at the effective address and changing nothing else but IP and TICK; a refused
pointer or store stops it. -/
def StoresAs (rows : Byte → Word → List MemRow) (value : State → Byte) : Prop :=
  ∀ b w, ∀ row ∈ rows b w, Encodes row.instr (row.op :: memBytes row.operand) ∧ ∀ s,
    (∀ ea crossed s', row.operand.address s = .ok ((ea, crossed), s') →
      (∀ u, busWrite ea (value s) s' = .ok u →
        Stored ea (value s) s' u ∧ exec row.instr s = .next (advanced row.operand.size row.cycles u)) ∧
      (∀ f, busWrite ea (value s) s' = .error f → exec row.instr s = .fault f)) ∧
    (∀ f, row.operand.address s = .error f → exec row.instr s = .fault f)

/-- Every row is encoded as listed and completes, turning the byte `v` at the effective address into the byte numbered `result v c`, with the flags
`flags` says; `c` is the old carry. A refused pointer or access stops it. -/
def ModifiesAs (rows : Byte → Word → List MemRow) (result : Nat → Nat → Nat) (flags : Byte → Byte → Flag → Option Bool) : Prop :=
  ∀ b w, ∀ row ∈ rows b w, Encodes row.instr (row.op :: memBytes row.operand) ∧ ∀ s,
    (∀ ea crossed s₁, row.operand.address s = .ok ((ea, crossed), s₁) →
      (∀ v s₂ r, busRead ea s₁ = .ok (v, s₂) → r = BitVec.ofNat 8 (result v.toNat (s.flag .c).toNat) →
        (∀ u, busWrite ea r s₂ = .ok u → Stored ea r s₂ u ∧ ∃ q, FlagsWritten (flags v r) s.cpu.p q ∧
          exec row.instr s = .next (advanced row.operand.size row.cycles { u with cpu := { u.cpu with p := q } })) ∧
        (∀ f, busWrite ea r s₂ = .error f → exec row.instr s = .fault f)) ∧
      (∀ f, busRead ea s₁ = .error f → exec row.instr s = .fault f)) ∧
    (∀ f, row.operand.address s = .error f → exec row.instr s = .fault f)

/-- A one-byte instruction is encoded by `op` and completes from every state with `effect s u`, IP one on and TICK `cycles` on. -/
def RunsAs (op : Byte) (i : Instr) (cycles : Nat) (effect : State → State → Prop) : Prop :=
  Encodes i [op] ∧ ∀ s, ∃ u, effect s u ∧ exec i s = .next (advanced 1 cycles u)

/-- A register takes the byte `v` and N and Z are written from it. -/
def RegTakes (r : Reg) (v : Byte) (s u : State) : Prop :=
  ∃ q, FlagsWritten (nzOf v) s.cpu.p q ∧ u = (s.setReg r v).modifyP fun _ => q

/-- The flags `w` are written and nothing else. -/
def FlagsTake (w : Flag → Option Bool) (s u : State) : Prop :=
  ∃ q, FlagsWritten w s.cpu.p q ∧ u = { s with cpu := { s.cpu with p := q } }

/-- A packed-BCD byte as a number: "each nibble mod 10, combined as `high*10+low`" (42_arithmetic.md R210). -/
def bcd (b : Byte) : Nat := (b.toNat / 16 % 10) * 10 + b.toNat % 16 % 10

/-- The branches: opcode, instruction, flag tested, value that takes the branch (44_control_flow.md R267 to R274). -/
def branchRows (b : Byte) : List (Byte × Instr × Flag × Bool) :=
  [(0x10, .bpl b, .n, false), (0x30, .bmi b, .n, true), (0x50, .bvc b, .v, false), (0x70, .bvs b, .v, true),
   (0x90, .bcc b, .c, false), (0xB0, .bcs b, .c, true), (0xD0, .bne b, .z, false), (0xF0, .beq b, .z, true)]

/-- The flag instructions: opcode, instruction, flag, value written (45_stack_flags.md R294 to R300). -/
def flagRows : List (Byte × Instr × Flag × Bool) :=
  [(0x18, .clc, .c, false), (0x38, .sec, .c, true), (0x58, .cli, .i, false), (0x78, .sei, .i, true),
   (0xD8, .cld, .d, false), (0xF8, .sed, .d, true), (0xB8, .clv, .v, false)]

/-- The encodings of LDA (R190). -/
def ldaRows (b : Byte) (w : Word) : List ReadRow :=
  [⟨0xA1, .ldaIzx b, .mem (.izx b), 6⟩, ⟨0xA5, .ldaZp b, .mem (.zp b), 3⟩, ⟨0xA9, .ldaImm b, .imm b, 2⟩,
   ⟨0xAD, .ldaAbs w, .mem (.abs w), 4⟩, ⟨0xB1, .ldaIzy b, .mem (.izy b), 5⟩, ⟨0xB5, .ldaZpx b, .mem (.zpx b), 4⟩,
   ⟨0xB9, .ldaAby w, .mem (.aby w), 4⟩, ⟨0xBD, .ldaAbx w, .mem (.abx w), 4⟩]

/-- The encodings of LDX (R191). -/
def ldxRows (b : Byte) (w : Word) : List ReadRow :=
  [⟨0xA2, .ldxImm b, .imm b, 2⟩, ⟨0xA6, .ldxZp b, .mem (.zp b), 3⟩, ⟨0xAE, .ldxAbs w, .mem (.abs w), 4⟩,
   ⟨0xB6, .ldxZpy b, .mem (.zpy b), 4⟩, ⟨0xBE, .ldxAby w, .mem (.aby w), 4⟩]

/-- The encodings of LDY (R192). -/
def ldyRows (b : Byte) (w : Word) : List ReadRow :=
  [⟨0xA0, .ldyImm b, .imm b, 2⟩, ⟨0xA4, .ldyZp b, .mem (.zp b), 3⟩, ⟨0xAC, .ldyAbs w, .mem (.abs w), 4⟩,
   ⟨0xB4, .ldyZpx b, .mem (.zpx b), 4⟩, ⟨0xBC, .ldyAbx w, .mem (.abx w), 4⟩]

/-- The encodings of ADC (R211). -/
def adcRows (b : Byte) (w : Word) : List ReadRow :=
  [⟨0x61, .adcIzx b, .mem (.izx b), 6⟩, ⟨0x65, .adcZp b, .mem (.zp b), 3⟩, ⟨0x69, .adcImm b, .imm b, 2⟩,
   ⟨0x6D, .adcAbs w, .mem (.abs w), 4⟩, ⟨0x71, .adcIzy b, .mem (.izy b), 5⟩, ⟨0x75, .adcZpx b, .mem (.zpx b), 4⟩,
   ⟨0x79, .adcAby w, .mem (.aby w), 4⟩, ⟨0x7D, .adcAbx w, .mem (.abx w), 4⟩]

/-- The encodings of SBC (R213). -/
def sbcRows (b : Byte) (w : Word) : List ReadRow :=
  [⟨0xE1, .sbcIzx b, .mem (.izx b), 6⟩, ⟨0xE5, .sbcZp b, .mem (.zp b), 3⟩, ⟨0xE9, .sbcImm b, .imm b, 2⟩,
   ⟨0xED, .sbcAbs w, .mem (.abs w), 4⟩, ⟨0xF1, .sbcIzy b, .mem (.izy b), 5⟩, ⟨0xF5, .sbcZpx b, .mem (.zpx b), 4⟩,
   ⟨0xF9, .sbcAby w, .mem (.aby w), 4⟩, ⟨0xFD, .sbcAbx w, .mem (.abx w), 4⟩]

/-- The encodings of CMP (R215). -/
def cmpRows (b : Byte) (w : Word) : List ReadRow :=
  [⟨0xC1, .cmpIzx b, .mem (.izx b), 6⟩, ⟨0xC5, .cmpZp b, .mem (.zp b), 3⟩, ⟨0xC9, .cmpImm b, .imm b, 2⟩,
   ⟨0xCD, .cmpAbs w, .mem (.abs w), 4⟩, ⟨0xD1, .cmpIzy b, .mem (.izy b), 5⟩, ⟨0xD5, .cmpZpx b, .mem (.zpx b), 4⟩,
   ⟨0xD9, .cmpAby w, .mem (.aby w), 4⟩, ⟨0xDD, .cmpAbx w, .mem (.abx w), 4⟩]

/-- The encodings of CPX (R216). -/
def cpxRows (b : Byte) (w : Word) : List ReadRow :=
  [⟨0xE0, .cpxImm b, .imm b, 2⟩, ⟨0xE4, .cpxZp b, .mem (.zp b), 3⟩, ⟨0xEC, .cpxAbs w, .mem (.abs w), 4⟩]

/-- The encodings of CPY (R217). -/
def cpyRows (b : Byte) (w : Word) : List ReadRow :=
  [⟨0xC0, .cpyImm b, .imm b, 2⟩, ⟨0xC4, .cpyZp b, .mem (.zp b), 3⟩, ⟨0xCC, .cpyAbs w, .mem (.abs w), 4⟩]

/-- The encodings of AND (R240). -/
def andRows (b : Byte) (w : Word) : List ReadRow :=
  [⟨0x21, .andIzx b, .mem (.izx b), 6⟩, ⟨0x25, .andZp b, .mem (.zp b), 3⟩, ⟨0x29, .andImm b, .imm b, 2⟩,
   ⟨0x2D, .andAbs w, .mem (.abs w), 4⟩, ⟨0x31, .andIzy b, .mem (.izy b), 5⟩, ⟨0x35, .andZpx b, .mem (.zpx b), 4⟩,
   ⟨0x39, .andAby w, .mem (.aby w), 4⟩, ⟨0x3D, .andAbx w, .mem (.abx w), 4⟩]

/-- The encodings of ORA (R241). -/
def oraRows (b : Byte) (w : Word) : List ReadRow :=
  [⟨0x01, .oraIzx b, .mem (.izx b), 6⟩, ⟨0x05, .oraZp b, .mem (.zp b), 3⟩, ⟨0x09, .oraImm b, .imm b, 2⟩,
   ⟨0x0D, .oraAbs w, .mem (.abs w), 4⟩, ⟨0x11, .oraIzy b, .mem (.izy b), 5⟩, ⟨0x15, .oraZpx b, .mem (.zpx b), 4⟩,
   ⟨0x19, .oraAby w, .mem (.aby w), 4⟩, ⟨0x1D, .oraAbx w, .mem (.abx w), 4⟩]

/-- The encodings of EOR (R242). -/
def eorRows (b : Byte) (w : Word) : List ReadRow :=
  [⟨0x41, .eorIzx b, .mem (.izx b), 6⟩, ⟨0x45, .eorZp b, .mem (.zp b), 3⟩, ⟨0x49, .eorImm b, .imm b, 2⟩,
   ⟨0x4D, .eorAbs w, .mem (.abs w), 4⟩, ⟨0x51, .eorIzy b, .mem (.izy b), 5⟩, ⟨0x55, .eorZpx b, .mem (.zpx b), 4⟩,
   ⟨0x59, .eorAby w, .mem (.aby w), 4⟩, ⟨0x5D, .eorAbx w, .mem (.abx w), 4⟩]

/-- The encodings of BIT (R243). -/
def bitRows (b : Byte) (w : Word) : List ReadRow :=
  [⟨0x24, .bitZp b, .mem (.zp b), 3⟩, ⟨0x2C, .bitAbs w, .mem (.abs w), 4⟩]

/-- The encodings of STA in memory (R193). -/
def staRows (b : Byte) (w : Word) : List MemRow :=
  [⟨0x81, .staIzx b, .izx b, 6⟩, ⟨0x85, .staZp b, .zp b, 3⟩, ⟨0x8D, .staAbs w, .abs w, 4⟩,
   ⟨0x91, .staIzy b, .izy b, 6⟩, ⟨0x95, .staZpx b, .zpx b, 4⟩, ⟨0x99, .staAby w, .aby w, 5⟩,
   ⟨0x9D, .staAbx w, .abx w, 5⟩]

/-- The encodings of STX in memory (R194). -/
def stxRows (b : Byte) (w : Word) : List MemRow :=
  [⟨0x86, .stxZp b, .zp b, 3⟩, ⟨0x8E, .stxAbs w, .abs w, 4⟩, ⟨0x96, .stxZpy b, .zpy b, 4⟩]

/-- The encodings of STY in memory (R195). -/
def styRows (b : Byte) (w : Word) : List MemRow :=
  [⟨0x84, .styZp b, .zp b, 3⟩, ⟨0x8C, .styAbs w, .abs w, 4⟩, ⟨0x94, .styZpx b, .zpx b, 4⟩]

/-- The encodings of INC in memory (R218). -/
def incRows (b : Byte) (w : Word) : List MemRow :=
  [⟨0xE6, .incZp b, .zp b, 5⟩, ⟨0xEE, .incAbs w, .abs w, 6⟩, ⟨0xF6, .incZpx b, .zpx b, 6⟩,
   ⟨0xFE, .incAbx w, .abx w, 7⟩]

/-- The encodings of DEC in memory (R219). -/
def decRows (b : Byte) (w : Word) : List MemRow :=
  [⟨0xC6, .decZp b, .zp b, 5⟩, ⟨0xCE, .decAbs w, .abs w, 6⟩, ⟨0xD6, .decZpx b, .zpx b, 6⟩,
   ⟨0xDE, .decAbx w, .abx w, 7⟩]

/-- The encodings of ASL in memory (R244). -/
def aslRows (b : Byte) (w : Word) : List MemRow :=
  [⟨0x06, .aslZp b, .zp b, 5⟩, ⟨0x0E, .aslAbs w, .abs w, 6⟩, ⟨0x16, .aslZpx b, .zpx b, 6⟩,
   ⟨0x1E, .aslAbx w, .abx w, 7⟩]

/-- The encodings of LSR in memory (R245). -/
def lsrRows (b : Byte) (w : Word) : List MemRow :=
  [⟨0x46, .lsrZp b, .zp b, 5⟩, ⟨0x4E, .lsrAbs w, .abs w, 6⟩, ⟨0x56, .lsrZpx b, .zpx b, 6⟩,
   ⟨0x5E, .lsrAbx w, .abx w, 7⟩]

/-- The encodings of ROL in memory (R246). -/
def rolRows (b : Byte) (w : Word) : List MemRow :=
  [⟨0x26, .rolZp b, .zp b, 5⟩, ⟨0x2E, .rolAbs w, .abs w, 6⟩, ⟨0x36, .rolZpx b, .zpx b, 6⟩,
   ⟨0x3E, .rolAbx w, .abx w, 7⟩]

/-- The encodings of ROR in memory (R247). -/
def rorRows (b : Byte) (w : Word) : List MemRow :=
  [⟨0x66, .rorZp b, .zp b, 5⟩, ⟨0x6E, .rorAbs w, .abs w, 6⟩, ⟨0x76, .rorZpx b, .zpx b, 6⟩,
   ⟨0x7E, .rorAbx w, .abx w, 7⟩]

/-- The opcodes with no assignment (30_encoding.md R108), with the instruction of each: part 1 of 3. -/
def unassignedPart1 : List (Byte × Instr) :=
  [(0x02, .fx02), (0x03, .fx03), (0x04, .fx04), (0x07, .fx07), (0x0B, .fx0B), (0x0C, .fx0C), (0x0F, .fx0F),
   (0x12, .fx12), (0x13, .fx13), (0x14, .fx14), (0x17, .fx17), (0x1A, .fx1A), (0x1B, .fx1B), (0x1C, .fx1C),
   (0x1F, .fx1F), (0x22, .fx22), (0x23, .fx23), (0x27, .fx27), (0x2B, .fx2B), (0x2F, .fx2F), (0x32, .fx32),
   (0x33, .fx33), (0x34, .fx34), (0x37, .fx37), (0x3A, .fx3A), (0x3B, .fx3B), (0x3C, .fx3C), (0x3F, .fx3F),
   (0x42, .fx42), (0x43, .fx43), (0x44, .fx44), (0x47, .fx47), (0x4B, .fx4B), (0x4F, .fx4F), (0x52, .fx52)]

/-- The opcodes with no assignment (30_encoding.md R108), with the instruction of each: part 2 of 3. -/
def unassignedPart2 : List (Byte × Instr) :=
  [(0x53, .fx53), (0x54, .fx54), (0x57, .fx57), (0x5A, .fx5A), (0x5B, .fx5B), (0x5C, .fx5C), (0x5F, .fx5F),
   (0x62, .fx62), (0x63, .fx63), (0x64, .fx64), (0x67, .fx67), (0x6B, .fx6B), (0x6F, .fx6F), (0x72, .fx72),
   (0x73, .fx73), (0x74, .fx74), (0x77, .fx77), (0x7A, .fx7A), (0x7B, .fx7B), (0x7C, .fx7C), (0x7F, .fx7F),
   (0x80, .fx80), (0x82, .fx82), (0x83, .fx83), (0x87, .fx87), (0x89, .fx89), (0x8B, .fx8B), (0x8F, .fx8F),
   (0x92, .fx92), (0x93, .fx93), (0x97, .fx97), (0x9B, .fx9B), (0x9C, .fx9C), (0x9E, .fx9E), (0x9F, .fx9F)]

/-- The opcodes with no assignment (30_encoding.md R108), with the instruction of each: part 3 of 3. -/
def unassignedPart3 : List (Byte × Instr) :=
  [(0xA3, .fxA3), (0xA7, .fxA7), (0xAB, .fxAB), (0xAF, .fxAF), (0xB2, .fxB2), (0xB3, .fxB3), (0xB7, .fxB7),
   (0xBB, .fxBB), (0xBF, .fxBF), (0xC2, .fxC2), (0xC3, .fxC3), (0xC7, .fxC7), (0xCB, .fxCB), (0xCF, .fxCF),
   (0xD2, .fxD2), (0xD3, .fxD3), (0xD4, .fxD4), (0xD7, .fxD7), (0xDA, .fxDA), (0xDB, .fxDB), (0xDC, .fxDC),
   (0xDF, .fxDF), (0xE2, .fxE2), (0xE3, .fxE3), (0xE7, .fxE7), (0xEB, .fxEB), (0xEF, .fxEF), (0xF2, .fxF2),
   (0xF3, .fxF3), (0xF4, .fxF4), (0xF7, .fxF7), (0xFA, .fxFA), (0xFB, .fxFB), (0xFC, .fxFC), (0xFF, .fxFF)]

/-- The 105 opcodes with no assignment (30_encoding.md R108), with the instruction of each. -/
def unassignedRows : List (Byte × Instr) := unassignedPart1 ++ unassignedPart2 ++ unassignedPart3

/-! ## Who may write what -/

/-- The instructions whose N and Z come from their result, TXS apart. -/
def nzWriters : List String :=
  ["LDA", "LDX", "LDY", "TAX", "TAY", "TXA", "TYA", "TSX", "TXS", "INC", "DEC", "INX", "INY", "DEX", "DEY", "ADC", "SBC",
   "CMP", "CPX", "CPY", "AND", "ORA", "EOR", "BIT", "ASL", "LSR", "ROL", "ROR", "PLA", "PLP", "RTI"]

/-- The mnemonics that may write a flag (10_state.md R26). -/
def flagWriters : Flag → List String
  | .c => ["ADC", "SBC", "CMP", "CPX", "CPY", "ASL", "LSR", "ROL", "ROR", "CLC", "SEC", "PLP", "RTI"]
  | .z => nzWriters
  | .n => nzWriters
  | .i => ["CLI", "SEI", "PLP", "RTI"]
  | .d => ["CLD", "SED", "PLP", "RTI"]
  | .b => ["BRK", "PLP", "RTI"]
  | .u => ["PLP", "RTI"]
  | .v => ["ADC", "SBC", "BIT", "CLV", "PLP", "RTI"]

/-- The mnemonics that may write a register (10_state.md R20, R21 and the instruction rules). -/
def regWriters : Reg → List String
  | .a => ["LDA", "TXA", "TYA", "ADC", "SBC", "AND", "ORA", "EOR", "ASL", "LSR", "ROL", "ROR", "PLA"]
  | .x => ["LDX", "TAX", "TSX", "INX", "DEX"]
  | .y => ["LDY", "TAY", "INY", "DEY"]
  | .sp => ["PHA", "PHP", "PLA", "PLP", "JSR", "RTS", "RTI", "TXS"]

/-- The memory operand an instruction stores to, where it stores to one. -/
def storeOperand : Instr → Option MemOperand
  | .aslZp b => some (.zp b)
  | .aslAbs w => some (.abs w)
  | .aslZpx b => some (.zpx b)
  | .aslAbx w => some (.abx w)
  | .rolZp b => some (.zp b)
  | .rolAbs w => some (.abs w)
  | .rolZpx b => some (.zpx b)
  | .rolAbx w => some (.abx w)
  | .lsrZp b => some (.zp b)
  | .lsrAbs w => some (.abs w)
  | .lsrZpx b => some (.zpx b)
  | .lsrAbx w => some (.abx w)
  | .rorZp b => some (.zp b)
  | .rorAbs w => some (.abs w)
  | .rorZpx b => some (.zpx b)
  | .rorAbx w => some (.abx w)
  | .staIzx b => some (.izx b)
  | .styZp b => some (.zp b)
  | .staZp b => some (.zp b)
  | .stxZp b => some (.zp b)
  | .styAbs w => some (.abs w)
  | .staAbs w => some (.abs w)
  | .stxAbs w => some (.abs w)
  | .staIzy b => some (.izy b)
  | .styZpx b => some (.zpx b)
  | .staZpx b => some (.zpx b)
  | .stxZpy b => some (.zpy b)
  | .staAby w => some (.aby w)
  | .staAbx w => some (.abx w)
  | .decZp b => some (.zp b)
  | .decAbs w => some (.abs w)
  | .decZpx b => some (.zpx b)
  | .decAbx w => some (.abx w)
  | .incZp b => some (.zp b)
  | .incAbs w => some (.abs w)
  | .incZpx b => some (.zpx b)
  | .incAbx w => some (.abx w)
  | _ => none

/-- Every address an instruction stores to, from the state it starts in: its operand's effective address, or the stack bytes of a push or of JSR. -/
def storedAddresses (i : Instr) (s : State) : List Word :=
  match storeOperand i with
  | some m =>
    match m.address s with
    | .ok ((ea, _), _) => [ea]
    | .error _ => []
  | none =>
    match i with
    | .pha | .php => [stackByte s s.cpu.sp]
    | .jsr _ => [stackByte s s.cpu.sp, stackByte s (s.cpu.sp - 1)]
    | _ => []

/-! ## Transactions -/

/-- Every access is the script's. -/
def OnScript (s : State) : Prop := s.cfg.manager = { readable := .none, writable := .none, scripted := .all }

/-- From `s` to `t` the memory manager was asked exactly these accesses, in this order, one answer of its script each. -/
def Asks (l : List Access) (s t : State) : Prop :=
  t.bus.asked = l.reverse ++ s.bus.asked ∧ t.bus.script = s.bus.script.drop l.length

/-- The pointer reads of an addressing mode (40_cpu_engine.md R160, R161). -/
def pointerReads (s : State) : MemOperand → List Access
  | .izx b =>
    let z := (b.toNat + s.cpu.x.toNat) % 256
    [.read (BitVec.ofNat 16 z), .read (BitVec.ofNat 16 (if s.cfg.ptrHiWrap then (z + 1) % 256 else z + 1))]
  | .izy b =>
    [.read (BitVec.ofNat 16 b.toNat),
     .read (BitVec.ofNat 16 (if s.cfg.ptrHiWrap then (b.toNat + 1) % 256 else b.toNat + 1))]
  | _ => []

/-- Every row of an instruction that reads an operand. -/
def readRows (b : Byte) (w : Word) : List ReadRow :=
  ldaRows b w ++ ldxRows b w ++ ldyRows b w ++ adcRows b w ++ sbcRows b w ++ cmpRows b w ++ cpxRows b w ++ cpyRows b w ++
  andRows b w ++ oraRows b w ++ eorRows b w ++ bitRows b w

/-- Every row of an instruction that stores a register. -/
def storeRows (b : Byte) (w : Word) : List MemRow := staRows b w ++ stxRows b w ++ styRows b w

/-- Every row of an instruction that reads, modifies and writes memory. -/
def modifyRows (b : Byte) (w : Word) : List MemRow :=
  incRows b w ++ decRows b w ++ aslRows b w ++ lsrRows b w ++ rolRows b w ++ rorRows b w

/-- The mnemonics no form of which accesses memory beyond its own bytes. -/
def quietMnemonics : List String :=
  ["TAX", "TAY", "TXA", "TYA", "TSX", "TXS", "INX", "INY", "DEX", "DEY", "NOP", "BRK", "CLC", "SEC", "CLI", "SEI", "CLD", "SED",
   "CLV", "BPL", "BMI", "BVC", "BVS", "BCC", "BCS", "BNE", "BEQ"]

/-- The instructions that access no memory beyond their own bytes, the immediate forms apart. -/
def Quiet (i : Instr) : Prop :=
  i.mnemonic ∈ quietMnemonics ∨ (∃ w, i = .jmpAbs w) ∨ i ∈ [.aslAcc, .lsrAcc, .rolAcc, .rorAcc] ∨
    i ∈ unassignedRows.map Prod.snd

/-! ## Inspection -/

/-- The inspection names that read no memory, and what each stands for (60_exceptions.md R462). -/
def probes (s : State) : List (Probe × Nat) :=
  [(.a, s.cpu.a.toNat), (.x, s.cpu.x.toNat), (.y, s.cpu.y.toNat), (.sp, s.cpu.sp.toNat), (.ip, s.cpu.ip.toNat),
   (.c, (s.flag .c).toNat), (.z, (s.flag .z).toNat), (.i, (s.flag .i).toNat), (.d, (s.flag .d).toNat),
   (.b, (s.flag .b).toNat), (.v, (s.flag .v).toNat), (.n, (s.flag .n).toNat), (.flags, s.cpu.p.toNat)]

/-! ## Runs -/

/-- `n` CPU steps in a row. -/
def cpuRun : Nat → State → Result
  | 0, s => .next s
  | n + 1, s =>
    match cpuStep s with
    | .next t => cpuRun n t
    | .fault f => .fault f
    | .refused r => .refused r

/-- The same machine with another TIA, and TICK `k` higher. -/
def shifted (t : Tia) (k : Nat) (s : State) : State := { s with tia := t, cpu := { s.cpu with tick := s.cpu.tick + k } }

/-- A result with its next state shifted. -/
def shiftedResult (t : Tia) (k : Nat) : Result → Result
  | .next u => .next (shifted t k u)
  | .fault f => .fault f
  | .refused r => .refused r

/-! ## The TIA -/

/-- `n` ticks in a row. -/
def ticks : Nat → Tia → Tia
  | 0, t => t
  | n + 1, t => ticks n t.nextClockTick.1

/-- The first colour of a list whose object is on, else the background. -/
def firstOn (background : Byte) : List (Bool × Byte) → Byte
  | [] => background
  | (on, colour) :: rest => if on then colour else firstOn background rest

/-- `(scale, copies, spacing)` of the eight player geometries, in the order of their codes (47_tia_registers.md R373). -/
def geometryTable : List (Nat × Nat × Nat) :=
  [(1, 1, 1), (1, 2, 2), (1, 2, 4), (1, 3, 2), (1, 2, 8), (2, 1, 1), (1, 3, 4), (4, 1, 1)]

/-- A player takes the geometry of code `n`. -/
def TakesGeometry (n : Nat) (p q : Sprite 8) : Prop :=
  q = { p with scale := q.scale, copies := q.copies, spacing := q.spacing } ∧
  geometryTable[n]? = some (q.scale.toNat, q.copies.toNat, q.spacing.toNat)

/-- A missile or the ball takes the size `2 ^ k`. -/
def TakesSize (k : Nat) (p q : Sprite 1) : Prop := q = { p with scale := q.scale } ∧ q.scale.toNat = 2 ^ k

/-- A sprite takes the motion value of a written byte: bits 7..4, signed (47_tia_registers.md R374). -/
def TakesMotion {size : Nat} (v : Byte) (p q : Sprite size) : Prop :=
  q = { p with hm := q.hm } ∧ q.hm.toInt = if v.toNat / 16 < 8 then (v.toNat / 16 : Int) else (v.toNat / 16 : Int) - 16

/-- A sprite takes the current column (47_tia_registers.md R375). -/
def TakesColumn {size : Nat} (cfg : Config) (t : Tia) (p q : Sprite size) : Prop :=
  q = { p with x := q.x } ∧
  q.x.val = if 68 ≤ t.colorClock.val then t.colorClock.val - 68 else cfg.hblankResetColumn.val

/-- A sprite moves by its motion value, stopped at the edges, and keeps everything else (49_tia_motion_collision.md R420). -/
def Moves {size : Nat} (dir : Int) (p q : Sprite size) : Prop :=
  q = { p with x := q.x } ∧ (q.x.val : Int) = max 0 (min 159 (p.x.val + dir * p.hm.toInt))

/-- The six enable flags of the collision-algebra property (49_tia_motion_collision.md R426). -/
structure Enables where
  pf : Bool
  bl : Bool
  p0 : Bool
  m0 : Bool
  p1 : Bool
  m1 : Bool

/-- The writes of R426, address and value, CXCLR last. -/
def Enables.writes (e : Enables) : List (Nat × Byte) :=
  [(0x04, 0), (0x05, 0), (0x0A, 0), (0x0D, if e.pf then 0x10 else 0), (0x1B, if e.p0 then 0x80 else 0),
   (0x1C, if e.p1 then 0x80 else 0), (0x1D, if e.m0 then 0x02 else 0), (0x1E, if e.m1 then 0x02 else 0),
   (0x1F, if e.bl then 0x02 else 0), (0x2C, 0)]

/-- Register writes in the order made. -/
def writeAll (cfg : Config) (ws : List (Nat × Byte)) (t : Tia) : Tia := ws.foldl (fun t w => t.writeRegister cfg w.1 w.2) t

/-- `128*bit7 + 64*bit6`: the other six bits are 0 (47_tia_registers.md section 4, decision D29). -/
def topBits (bit7 bit6 : Bool) : Byte := BitVec.ofNat 8 (128 * bit7.toNat + 64 * bit6.toNat)

end Sys2Proof.Stated

open Sys2Proof Sys2Proof.Machine Sys2Proof.Stated

/-! ## Encoding and stepping -/

/-- For every well-formed instruction, decoding what the encoder gives, whatever bytes follow, gives the instruction and those bytes (30_encoding.md R100,
R101, R104, R106, R108). -/
def Obligations.DecodeInvertsEncode : Prop :=
  ∀ i : Instr, i.wellFormed = true → ∀ rest, decode (encode i ++ rest) = .ok (i, rest)

/-- Each byte sequence has one meaning: bytes that decode are the encoding of the instruction decoded, and what is left over; and with two bytes after it
every opcode decodes (30_encoding.md R100, R110, 40_cpu_engine.md R151). -/
def Obligations.EncodeInvertsDecode : Prop :=
  (∀ bs i rest, decode bs = .ok (i, rest) → bs = encode i ++ rest) ∧
  ∀ op b1 b2, ∃ i rest, decode [op, b1, b2] = .ok (i, rest)

/-- The seven descriptors the source's own byte sequences show (30_encoding.md R105): opcode, mnemonic, mode and size. -/
def Obligations.EvidencedBytesDecode : Prop :=
  decode [0xA2, 0x00] = .ok (.ldxImm 0x00, []) ∧ (Instr.ldxImm 0x00).mnemonic = "LDX" ∧
  decode [0x20, 0x0B, 0x00] = .ok (.jsr 0x000B, []) ∧ (Instr.jsr 0x000B).mnemonic = "JSR" ∧
  decode [0xCA] = .ok (.dex, []) ∧ Instr.dex.mnemonic = "DEX" ∧
  decode [0xD0, 0xFA] = .ok (.bne 0xFA, []) ∧ (Instr.bne 0xFA).mnemonic = "BNE" ∧
  decode [0x4C, 0x0C, 0x00] = .ok (.jmpAbs 0x000C, []) ∧ (Instr.jmpAbs 0x000C).mnemonic = "JMP" ∧
  decode [0x60] = .ok (.rts, []) ∧ Instr.rts.mnemonic = "RTS" ∧
  decode [0x00] = .ok (.brk, []) ∧ Instr.brk.mnemonic = "BRK"

/-- When the bytes read one by one from IP on decode to exactly `i`, a CPU step runs `i` from the state after those reads, a step whose next call is the CPU's
runs it too, and so does a step with nothing scheduled (40_cpu_engine.md R150). That an empty schedule means a CPU step is the model's own (log 8). -/
def Obligations.StepRunsDecodedInstruction : Prop :=
  ∀ (s t : State) (bs : List Byte) (i : Instr), decode bs = .ok (i, []) → ReadsInTurn s.cpu.ip bs s t →
    cpuStep s = exec i t ∧ (s.schedule = [] → step s = exec i t) ∧
    ∀ rest, s.schedule = .cpuStep :: rest → step s = exec i { t with schedule := rest }

/-- A CPU step stops at the first byte of its instruction the memory manager refuses, in ascending order, and names it, whatever is scheduled
(20_memory.md R74, 60_exceptions.md R452, decision D6). -/
def Obligations.FetchStopsAtFirstRefusedByte : Prop :=
  ∀ (s : State),
    (∀ f, busRead s.cpu.ip s = .error f → cpuStep s = .fault (.busFault s.cpu.ip)) ∧
    ∀ op s₁, busRead s.cpu.ip s = .ok (op, s₁) → 2 ≤ (formatOf op).size →
      (∀ f, busRead (s.cpu.ip + 1) s₁ = .error f → cpuStep s = .fault (.busFault (s.cpu.ip + 1))) ∧
      (∀ b s₂ f, busRead (s.cpu.ip + 1) s₁ = .ok (b, s₂) → (formatOf op).size = 3 → busRead (s.cpu.ip + 2) s₂ = .error f →
        cpuStep s = .fault (.busFault (s.cpu.ip + 2)))

/-! ## The bus -/

/-- What a transaction does: a read or a write is answered from storage, where storage covers its address, and else by the script, whose next answer is used up;
what neither answers is a bus fault that names the address (20_memory.md R70, R71, R76). The form of the memory manager is the model's own (log 6). -/
def Obligations.BusTransactions : Prop :=
  ∀ (s : State) (a : Word),
    (∀ v u, busRead a s = .ok (v, u) ↔ ReadGives a v s u) ∧
    (∀ f, busRead a s = .error f ↔ f = .busFault a ∧ backs s.cfg.manager.readable a = false ∧ Unanswered a s) ∧
    ∀ v,
      (∀ u, busWrite a v s = .ok u → Stored a v s u) ∧
      (∀ f, busWrite a v s = .error f ↔ f = .busFault a ∧ backs s.cfg.manager.writable a = false ∧ Unanswered a s)

/-- The transactions of a CPU step, seen where every access is the script's: the instruction's bytes in ascending order, the pointer low byte first, the data
read, the data write; one read and one write for a modifying instruction; the stack bytes in the order of the instruction; and no other (20_memory.md R74,
decisions D6, D7). -/
def Obligations.TransactionOrder : Prop :=
  ∀ (s t : State), OnScript s →
    (cpuStep s = .next t → ∃ i u,
      Asks ((List.range (encode i).length).map fun k => .read (BitVec.ofNat 16 (s.cpu.ip.toNat + k))) s u ∧
      u = { s with bus := u.bus } ∧ exec i u = .next t) ∧
    (∀ b w, ∀ row ∈ readRows b w, exec row.instr s = .next t → match row.operand with
      | .imm _ => Asks [] s t
      | .mem m => ∃ ea crossed u, m.address s = .ok ((ea, crossed), u) ∧ Asks (pointerReads s m ++ [.read ea]) s t) ∧
    (∀ b w, ∀ row ∈ storeRows b w, exec row.instr s = .next t → ∃ ea crossed u v,
      row.operand.address s = .ok ((ea, crossed), u) ∧ Asks (pointerReads s row.operand ++ [.write ea v]) s t) ∧
    (∀ b w, ∀ row ∈ modifyRows b w, exec row.instr s = .next t → ∃ ea crossed u v,
      row.operand.address s = .ok ((ea, crossed), u) ∧ Asks [.read ea, .write ea v] s t) ∧
    (∀ w hi : Word, hi = BitVec.ofNat 16
        (if s.cfg.jmpIndPageBug then w.toNat / 256 * 256 + (w.toNat % 256 + 1) % 256 else w.toNat + 1) →
      exec (.jmpInd w) s = .next t → Asks [.read w, .read hi] s t) ∧
    (∀ w, exec (.jsr w) s = .next t → ∃ hi lo,
      Asks [.write (stackByte s s.cpu.sp) hi, .write (stackByte s (s.cpu.sp - 1)) lo] s t) ∧
    (exec .rts s = .next t → Asks [.read (stackByte s (s.cpu.sp + 1)), .read (stackByte s (s.cpu.sp + 2))] s t) ∧
    (exec .rti s = .next t →
      Asks ([1, 2, 3].map fun k => .read (stackByte s (s.cpu.sp + k))) s t) ∧
    (∀ i ∈ [Instr.pha, Instr.php], exec i s = .next t → ∃ v, Asks [.write (stackByte s s.cpu.sp) v] s t) ∧
    (∀ i ∈ [Instr.pla, Instr.plp], exec i s = .next t → Asks [.read (stackByte s (s.cpu.sp + 1))] s t) ∧
    (∀ i, Quiet i → exec i s = .next t → Asks [] s t)

/-! ## Addressing, flags, stack -/

/-- The effective addresses of the modes that read no pointer, and when the page is crossed; nothing changes (40_cpu_engine.md R154 to R159, decisions D3,
D5). -/
def Obligations.DirectAddresses : Prop :=
  ∀ (s : State) (b : Byte) (w : Word),
    (MemOperand.zp b).address s = .ok ((BitVec.ofNat 16 b.toNat, false), s) ∧
    (MemOperand.zpx b).address s = .ok ((BitVec.ofNat 16
      (if s.cfg.zpIndexWrap then (b.toNat + s.cpu.x.toNat) % 256 else b.toNat + s.cpu.x.toNat), false), s) ∧
    (MemOperand.zpy b).address s = .ok ((BitVec.ofNat 16
      (if s.cfg.zpIndexWrap then (b.toNat + s.cpu.y.toNat) % 256 else b.toNat + s.cpu.y.toNat), false), s) ∧
    (MemOperand.abs w).address s = .ok ((w, false), s) ∧
    (MemOperand.abx w).address s = .ok ((BitVec.ofNat 16 (w.toNat + s.cpu.x.toNat),
      decide ((w.toNat + s.cpu.x.toNat) % 65536 / 256 ≠ w.toNat / 256)), s) ∧
    (MemOperand.aby w).address s = .ok ((BitVec.ofNat 16 (w.toNat + s.cpu.y.toNat),
      decide ((w.toNat + s.cpu.y.toNat) % 65536 / 256 ≠ w.toNat / 256)), s)

/-- The effective addresses of indirect-X and indirect-Y: where the two pointer bytes are read, low byte first, what they make, when the page is crossed; the
state is the one after the two reads, and the first refused pointer byte is the one named (40_cpu_engine.md R160, R161, decisions D4, D5). -/
def Obligations.IndirectAddresses : Prop :=
  ∀ (s : State) (b : Byte),
    (∀ z zh : Nat, z = (b.toNat + s.cpu.x.toNat) % 256 → zh = (if s.cfg.ptrHiWrap then (z + 1) % 256 else z + 1) →
      (∀ lo hi s₁ s₂, busRead (BitVec.ofNat 16 z) s = .ok (lo, s₁) → busRead (BitVec.ofNat 16 zh) s₁ = .ok (hi, s₂) →
        (MemOperand.izx b).address s = .ok ((BitVec.ofNat 16 (lo.toNat + 256 * hi.toNat), false), s₂)) ∧
      (∀ f, busRead (BitVec.ofNat 16 z) s = .error f → (MemOperand.izx b).address s = .error f) ∧
      (∀ lo s₁ f, busRead (BitVec.ofNat 16 z) s = .ok (lo, s₁) → busRead (BitVec.ofNat 16 zh) s₁ = .error f →
        (MemOperand.izx b).address s = .error f)) ∧
    (∀ zh : Nat, zh = (if s.cfg.ptrHiWrap then (b.toNat + 1) % 256 else b.toNat + 1) →
      (∀ lo hi base s₁ s₂, busRead (BitVec.ofNat 16 b.toNat) s = .ok (lo, s₁) → busRead (BitVec.ofNat 16 zh) s₁ = .ok (hi, s₂) →
        base = lo.toNat + 256 * hi.toNat →
        (MemOperand.izy b).address s = .ok ((BitVec.ofNat 16 (base + s.cpu.y.toNat),
          decide ((base + s.cpu.y.toNat) % 65536 / 256 ≠ base / 256)), s₂)) ∧
      (∀ f, busRead (BitVec.ofNat 16 b.toNat) s = .error f → (MemOperand.izy b).address s = .error f) ∧
      (∀ lo s₁ f, busRead (BitVec.ofNat 16 b.toNat) s = .ok (lo, s₁) → busRead (BitVec.ofNat 16 zh) s₁ = .error f →
        (MemOperand.izy b).address s = .error f))

/-- `operand()`: an immediate byte, or the byte at the effective address with one penalty cycle when the page is crossed; the address is worked out
before the data is read (40_cpu_engine.md R164, R165, derived there). -/
def Obligations.OperandReads : Prop :=
  ∀ (s : State), (∀ v, (ReadOperand.imm v).read s = .ok ((v, 0), s)) ∧
    ∀ (m : MemOperand),
      (∀ ea crossed s₁, m.address s = .ok ((ea, crossed), s₁) →
        (∀ v s₂, busRead ea s₁ = .ok (v, s₂) → (ReadOperand.mem m).read s = .ok ((v, if crossed then 1 else 0), s₂)) ∧
        (∀ f, busRead ea s₁ = .error f → (ReadOperand.mem m).read s = .error f)) ∧
      (∀ f, m.address s = .error f → (ReadOperand.mem m).read s = .error f)

/-- The status byte is its eight flags at their weights, so the flags are all there is to it; `setNZ(v)` writes Z, set when the byte is 0, and N, its bit 7,
and nothing else (10_state.md R25, 40_cpu_engine.md R172). -/
def Obligations.StatusByte : Prop :=
  (∀ p : Byte,
    p.toNat = (getFlag .c p).toNat + 2 * (getFlag .z p).toNat + 4 * (getFlag .i p).toNat + 8 * (getFlag .d p).toNat +
      16 * (getFlag .b p).toNat + 32 * (getFlag .u p).toNat + 64 * (getFlag .v p).toNat + 128 * (getFlag .n p).toNat) ∧
  ∀ (s : State) (v : Byte), FlagsTake (nzOf v) s (s.setNZ v)

/-- Push writes the byte at `page*256+SP` and then lowers SP; pull raises SP and then reads; SP wraps at both ends and a refused access is named
(40_cpu_engine.md R170, R171). -/
def Obligations.PushAndPull : Prop :=
  ∀ (s : State),
    (∀ v, (∀ u, busWrite (stackByte s s.cpu.sp) v s = .ok u → Stored (stackByte s s.cpu.sp) v s u ∧
        push v s = .ok (u.setReg .sp (BitVec.ofNat 8 (s.cpu.sp.toNat + 255)))) ∧
      (∀ f, busWrite (stackByte s s.cpu.sp) v s = .error f → push v s = .error (.busFault (stackByte s s.cpu.sp)))) ∧
    (∀ sp, sp = BitVec.ofNat 8 (s.cpu.sp.toNat + 1) →
      (∀ v u, busRead (stackByte s sp) s = .ok (v, u) → pull s = .ok (v, u.setReg .sp sp)) ∧
      (∀ f, busRead (stackByte s sp) s = .error f → pull s = .error (.busFault (stackByte s sp))))

/-! ## Loads, stores, transfers -/

/-- LDA, LDX, LDY: the operand goes to the register, N and Z are written from it (41_load_store_transfer.md R190 to R192). -/
def Obligations.Loads : Prop :=
  ReadsAs ldaRows (fun _ => True) (fun s m u => RegTakes .a m s u) ∧
  ReadsAs ldxRows (fun _ => True) (fun s m u => RegTakes .x m s u) ∧
  ReadsAs ldyRows (fun _ => True) (fun s m u => RegTakes .y m s u)

/-- STA, STX, STY: one byte stored at the effective address, no flag, no penalty cycle (41_load_store_transfer.md R193 to R195). -/
def Obligations.Stores : Prop :=
  StoresAs staRows (fun s => s.cpu.a) ∧ StoresAs stxRows (fun s => s.cpu.x) ∧ StoresAs styRows (fun s => s.cpu.y)

/-- TAX, TAY, TXA, TYA, TSX: the register takes the other's value, N and Z are written from it (41_load_store_transfer.md R196 to R200). -/
def Obligations.RegisterTransfers : Prop :=
  RunsAs 0xAA .tax 2 (fun s u => RegTakes .x s.cpu.a s u) ∧ RunsAs 0xA8 .tay 2 (fun s u => RegTakes .y s.cpu.a s u) ∧
  RunsAs 0x8A .txa 2 (fun s u => RegTakes .a s.cpu.x s u) ∧ RunsAs 0x98 .tya 2 (fun s u => RegTakes .a s.cpu.y s u) ∧
  RunsAs 0xBA .tsx 2 (fun s u => RegTakes .x s.cpu.sp s u)

/-- TXS: SP takes X; N and Z are written when `TXS_SETS_NZ`, else no flag is (41_load_store_transfer.md R201, decision D11). -/
def Obligations.TransferToStackPointer : Prop :=
  RunsAs 0x9A .txs 2 (fun s u =>
    (s.cfg.txsSetsNZ = true → RegTakes .sp s.cpu.x s u) ∧ (s.cfg.txsSetsNZ = false → u = s.setReg .sp s.cpu.x))

/-! ## Arithmetic -/

/-- ADC with D clear: `A + m + C` modulo 256, C its carry, V by the source's formula, N and Z from the result (42_arithmetic.md R210, R211). -/
def Obligations.AdcBinary : Prop :=
  ReadsAs adcRows (fun s => s.flag .d = false) (fun s m u =>
    ∃ t r q, t = s.cpu.a.toNat + m.toNat + (s.flag .c).toNat ∧ r = BitVec.ofNat 8 t ∧
      FlagsWritten (nzcvOf r (decide (255 < t))
        ((decide (128 ≤ s.cpu.a.toNat) && decide (128 ≤ m.toNat)) ^^ decide (128 ≤ t % 256))) s.cpu.p q ∧
      u = { s with cpu := { s.cpu with a := r, p := q } })

/-- ADC with D set: the unpacked operands are added, the sum modulo 100 is packed again, C says it passed 99, N and Z come from the packed result, V is
by `DEC_V_RULE` (42_arithmetic.md R210, R211, decisions D8, D9). -/
def Obligations.AdcDecimal : Prop :=
  ReadsAs adcRows (fun s => s.flag .d = true) (fun s m u =>
    ∃ t r q o, t = bcd s.cpu.a + bcd m + (s.flag .c).toNat ∧ r = BitVec.ofNat 8 (t % 100 / 10 * 16 + t % 100 % 10) ∧
      (s.cfg.decVRule = .binaryStep → o = decide (128 ≤ t)) ∧ (s.cfg.decVRule = .unchanged → o = s.flag .v) ∧
      (s.cfg.decVRule = .originalOperands →
        o = ((decide (128 ≤ s.cpu.a.toNat) && decide (128 ≤ m.toNat)) ^^ decide (128 ≤ t))) ∧
      FlagsWritten (nzcvOf r (decide (99 < t)) o) s.cpu.p q ∧ u = { s with cpu := { s.cpu with a := r, p := q } })

/-- SBC with D clear: `A - m - (1 - C)` modulo 256, C set when there is no borrow, V by the source's formula on the inverted operand, N and Z from the
result (42_arithmetic.md R212, R213, decision D10). -/
def Obligations.SbcBinary : Prop :=
  ReadsAs sbcRows (fun s => s.flag .d = false) (fun s m u =>
    ∃ (t : Int) (r q : Byte), t = (s.cpu.a.toNat : Int) - m.toNat - (1 - (s.flag .c).toNat) ∧ (r.toNat : Int) = t % 256 ∧
      FlagsWritten (nzcvOf r (decide (0 ≤ t))
        ((decide (128 ≤ s.cpu.a.toNat) && !decide (128 ≤ m.toNat)) ^^ decide (128 ≤ r.toNat))) s.cpu.p q ∧
      u = { s with cpu := { s.cpu with a := r, p := q } })

/-- SBC with D set: the unpacked difference modulo 100 is packed again, C says there was no borrow, N and Z come from the packed result; V takes some value,
which nothing here fixes (42_arithmetic.md R212, R213, decision D10, log 7). -/
def Obligations.SbcDecimal : Prop :=
  ReadsAs sbcRows (fun s => s.flag .d = true) (fun s m u =>
    ∃ (t : Int) (r q : Byte) (o : Bool), t = (bcd s.cpu.a : Int) - bcd m - (1 - (s.flag .c).toNat) ∧
      r = BitVec.ofNat 8 ((t % 100).toNat / 10 * 16 + (t % 100).toNat % 10) ∧
      FlagsWritten (nzcvOf r (decide (0 ≤ t)) o) s.cpu.p q ∧
      u = { s with cpu := { s.cpu with a := r, p := q }, draws := u.draws })

/-- CMP, CPX, CPY: C says the register is not below the operand, Z that they are equal, N is bit 7 of the difference; no register and no other flag is
written, whatever D is (42_arithmetic.md R214 to R217). -/
def Obligations.Compares : Prop :=
  let compared := fun (r : Byte) (s : State) (m : Byte) (u : State) =>
    ∃ d : Byte, (d.toNat : Int) = ((r.toNat : Int) - m.toNat) % 256 ∧ FlagsTake (nzcOf d (decide (m.toNat ≤ r.toNat))) s u
  ReadsAs cmpRows (fun _ => True) (fun s m u => compared s.cpu.a s m u) ∧
  ReadsAs cpxRows (fun _ => True) (fun s m u => compared s.cpu.x s m u) ∧
  ReadsAs cpyRows (fun _ => True) (fun s m u => compared s.cpu.y s m u)

/-- INC and DEC: the byte one higher or lower modulo 256, stored back; INX, INY, DEX, DEY: the register one higher or lower modulo 256. N and Z from the
result, no other flag (42_arithmetic.md R218 to R223). -/
def Obligations.IncrementsAndDecrements : Prop :=
  (ModifiesAs incRows (fun v _ => v + 1) (fun _ r => nzOf r) ∧ ModifiesAs decRows (fun v _ => v + 255) (fun _ r => nzOf r)) ∧
  RunsAs 0xE8 .inx 2 (fun s u => RegTakes .x (BitVec.ofNat 8 (s.cpu.x.toNat + 1)) s u) ∧
  RunsAs 0xC8 .iny 2 (fun s u => RegTakes .y (BitVec.ofNat 8 (s.cpu.y.toNat + 1)) s u) ∧
  RunsAs 0xCA .dex 2 (fun s u => RegTakes .x (BitVec.ofNat 8 (s.cpu.x.toNat + 255)) s u) ∧
  RunsAs 0x88 .dey 2 (fun s u => RegTakes .y (BitVec.ofNat 8 (s.cpu.y.toNat + 255)) s u)

/-! ## Logic, shifts -/

/-- AND, ORA, EOR: A takes the bitwise result, N and Z are written from it (43_logic_shift.md R240 to R242). -/
def Obligations.LogicOperations : Prop :=
  ReadsAs andRows (fun _ => True) (fun s m u => RegTakes .a (s.cpu.a &&& m) s u) ∧
  ReadsAs oraRows (fun _ => True) (fun s m u => RegTakes .a (s.cpu.a ||| m) s u) ∧
  ReadsAs eorRows (fun _ => True) (fun s m u => RegTakes .a (s.cpu.a ^^^ m) s u)

/-- BIT: Z from A AND the byte, N and V from bits 7 and 6 of the byte; A is kept (43_logic_shift.md R243). -/
def Obligations.BitTest : Prop :=
  ReadsAs bitRows (fun _ => True) (fun s m u => FlagsTake (fun
    | .z => some (decide (s.cpu.a &&& m = 0))
    | .n => some (decide (128 ≤ m.toNat))
    | .v => some (decide (m.toNat / 64 % 2 = 1))
    | _ => none) s u)

/-- ASL, LSR, ROL, ROR on A and in memory: one place, the bit shifted out to C, the old C shifted in by the rotates, N and Z from the result
(43_logic_shift.md R244 to R247). -/
def Obligations.ShiftsAndRotates : Prop :=
  let onA := fun (op : Byte) (i : Instr) (result : Nat → Nat → Nat) (out : Byte → Bool) =>
    RunsAs op i 2 (fun s u => ∃ r q, r = BitVec.ofNat 8 (result s.cpu.a.toNat (s.flag .c).toNat) ∧
      FlagsWritten (nzcOf r (out s.cpu.a)) s.cpu.p q ∧ u = { s with cpu := { s.cpu with a := r, p := q } })
  let top := fun v : Byte => decide (128 ≤ v.toNat)
  let bottom := fun v : Byte => decide (v.toNat % 2 = 1)
  (onA 0x0A .aslAcc (fun v _ => 2 * v) top ∧ ModifiesAs aslRows (fun v _ => 2 * v) (fun v r => nzcOf r (top v))) ∧
  (onA 0x4A .lsrAcc (fun v _ => v / 2) bottom ∧ ModifiesAs lsrRows (fun v _ => v / 2) (fun v r => nzcOf r (bottom v))) ∧
  (onA 0x2A .rolAcc (fun v c => 2 * v + c) top ∧ ModifiesAs rolRows (fun v c => 2 * v + c) (fun v r => nzcOf r (top v))) ∧
  (onA 0x6A .rorAcc (fun v c => v / 2 + 128 * c) bottom ∧
    ModifiesAs rorRows (fun v c => v / 2 + 128 * c) (fun v r => nzcOf r (bottom v)))

/-! ## Control transfer -/

/-- JMP: absolute to its operand; indirect to the word at its operand, whose high byte is on the next address, or on the same page with
`JMP_IND_PAGE_BUG`; the first refused pointer byte is the one named (44_control_flow.md R260, 40_cpu_engine.md R162, decision D4). -/
def Obligations.Jumps : Prop :=
  ∀ (w : Word) (s : State),
    Encodes (.jmpAbs w) [0x4C, BitVec.ofNat 8 w.toNat, BitVec.ofNat 8 (w.toNat / 256)] ∧
    exec (.jmpAbs w) s = .next (jumped w.toNat 3 s) ∧
    Encodes (.jmpInd w) [0x6C, BitVec.ofNat 8 w.toNat, BitVec.ofNat 8 (w.toNat / 256)] ∧
    ∀ hiAt : Word, hiAt = BitVec.ofNat 16
        (if s.cfg.jmpIndPageBug then w.toNat / 256 * 256 + (w.toNat % 256 + 1) % 256 else w.toNat + 1) →
      (∀ lo hi s₁ s₂, busRead w s = .ok (lo, s₁) → busRead hiAt s₁ = .ok (hi, s₂) →
        exec (.jmpInd w) s = .next (jumped (lo.toNat + 256 * hi.toNat) 5 s₂)) ∧
      (∀ f, busRead w s = .error f → exec (.jmpInd w) s = .fault f) ∧
      (∀ lo s₁ f, busRead w s = .ok (lo, s₁) → busRead hiAt s₁ = .error f → exec (.jmpInd w) s = .fault f)

/-- JSR: the address of its last byte goes on the stack, high byte first, SP is two lower, and control goes to the operand; the first refused stack byte
is the one named (44_control_flow.md R261). -/
def Obligations.JumpToSubroutine : Prop :=
  ∀ (w : Word) (s : State) (ret : Nat) (hi lo : Byte), ret = (s.cpu.ip.toNat + 2) % 65536 →
    hi = BitVec.ofNat 8 (ret / 256) → lo = BitVec.ofNat 8 ret →
    Encodes (.jsr w) [0x20, BitVec.ofNat 8 w.toNat, BitVec.ofNat 8 (w.toNat / 256)] ∧
    (∀ u, busWrite (stackByte s s.cpu.sp) hi s = .ok u → Stored (stackByte s s.cpu.sp) hi s u ∧
      (∀ v, busWrite (stackByte s (s.cpu.sp - 1)) lo u = .ok v → Stored (stackByte s (s.cpu.sp - 1)) lo u v ∧
        exec (.jsr w) s = .next (jumped w.toNat 6 (v.setReg .sp (s.cpu.sp - 2)))) ∧
      (∀ f, busWrite (stackByte s (s.cpu.sp - 1)) lo u = .error f →
        exec (.jsr w) s = .fault (.busFault (stackByte s (s.cpu.sp - 1))))) ∧
    (∀ f, busWrite (stackByte s s.cpu.sp) hi s = .error f → exec (.jsr w) s = .fault (.busFault (stackByte s s.cpu.sp)))

/-- RTS: two bytes pulled, low byte first; control goes to their word plus one; SP is two higher; no flag (44_control_flow.md R262). -/
def Obligations.ReturnFromSubroutine : Prop :=
  Encodes .rts [0x60] ∧ ∀ (s : State),
    (∀ lo hi s₁ s₂, busRead (stackByte s (s.cpu.sp + 1)) s = .ok (lo, s₁) →
      busRead (stackByte s (s.cpu.sp + 2)) s₁ = .ok (hi, s₂) →
      exec .rts s = .next (jumped (lo.toNat + 256 * hi.toNat + 1) 6 (s₂.setReg .sp (s.cpu.sp + 2)))) ∧
    (∀ f, busRead (stackByte s (s.cpu.sp + 1)) s = .error f → exec .rts s = .fault f) ∧
    (∀ lo s₁ f, busRead (stackByte s (s.cpu.sp + 1)) s = .ok (lo, s₁) →
      busRead (stackByte s (s.cpu.sp + 2)) s₁ = .error f → exec .rts s = .fault f)

/-- RTI: three bytes pulled; the first is P, all eight bits of it, the other two the address, low byte first, with nothing added; SP is three higher; the
first refused byte is the one named (44_control_flow.md R263, decision D15). -/
def Obligations.ReturnFromInterrupt : Prop :=
  Encodes .rti [0x40] ∧ ∀ (s : State),
    (∀ f, busRead (stackByte s (s.cpu.sp + 1)) s = .error f → exec .rti s = .fault f) ∧
    ∀ p s₁, busRead (stackByte s (s.cpu.sp + 1)) s = .ok (p, s₁) →
      (∀ f, busRead (stackByte s (s.cpu.sp + 2)) s₁ = .error f → exec .rti s = .fault f) ∧
      ∀ lo s₂, busRead (stackByte s (s.cpu.sp + 2)) s₁ = .ok (lo, s₂) →
        (∀ f, busRead (stackByte s (s.cpu.sp + 3)) s₂ = .error f → exec .rti s = .fault f) ∧
        ∀ hi s₃, busRead (stackByte s (s.cpu.sp + 3)) s₂ = .ok (hi, s₃) →
          exec .rti s = .next (jumped (lo.toNat + 256 * hi.toNat) 6 ((s₃.setReg .sp (s.cpu.sp + 3)).modifyP fun _ => p))

/-- A stepped BRK sets B and nothing else, in 7 cycles; NOP does nothing, in 2 (44_control_flow.md R264, R265, decision D14). -/
def Obligations.BreakAndNoOperation : Prop :=
  RunsAs 0x00 .brk 7 (fun s u => FlagsTake (only .b true) s u) ∧ RunsAs 0xEA .nop 2 (fun s u => u = s)

/-- The branches: taken by their flag, to IP plus 2 plus the signed displacement, at one cycle more, two when the page differs from that of IP plus 2; else
past the instruction at the base cycles; no flag and no register (44_control_flow.md R266 to R274, decisions D1, D13). -/
def Obligations.Branches : Prop :=
  ∀ (b : Byte), ∀ row ∈ branchRows b, Encodes row.2.1 [row.1, b] ∧ ∀ (s : State) (base target : Nat),
    base = (s.cpu.ip.toNat + 2) % 65536 → (target : Int) = ((base : Int) + b.toInt) % 65536 →
    (s.flag row.2.2.1 = row.2.2.2 → target / 256 = base / 256 → exec row.2.1 s = .next (jumped target 3 s)) ∧
    (s.flag row.2.2.1 = row.2.2.2 → target / 256 ≠ base / 256 → exec row.2.1 s = .next (jumped target 4 s)) ∧
    (s.flag row.2.2.1 ≠ row.2.2.2 → exec row.2.1 s = .next (advanced 2 2 s))

/-- A JSR and an RTS that follow each other, on a stack whose two bytes are storage for reads and writes alike, come back to the instruction after the JSR, with
SP, A, X, Y and P as they were, whatever SP was (44_control_flow.md R261, R262; that storage reads what was last written is 20_memory.md R83, "for plain
memory", and that a memory manager is such storage there is a choice of the parameter of log 6, here a hypothesis). -/
def Obligations.CallThenReturn : Prop :=
  ∀ (w : Word) (s : State),
    (∀ a ∈ [stackByte s s.cpu.sp, stackByte s (s.cpu.sp - 1)],
      backs s.cfg.manager.readable a = true ∧ backs s.cfg.manager.writable a = true) →
    ∃ t u, exec (.jsr w) s = .next t ∧ t.cpu.ip = w ∧ exec .rts t = .next u ∧
      u.cpu.ip = BitVec.ofNat 16 (s.cpu.ip.toNat + 3) ∧ u.cpu.sp = s.cpu.sp ∧ u.cpu.a = s.cpu.a ∧ u.cpu.x = s.cpu.x ∧
      u.cpu.y = s.cpu.y ∧ u.cpu.p = s.cpu.p ∧ u.cpu.tick = s.cpu.tick + 12

/-! ## Stack and flag instructions, future expansion -/

/-- PHA, PHP push A and P as stored; PLA pulls A with N and Z; PLP pulls all eight bits of P (45_stack_flags.md R290 to R293, decision D15). -/
def Obligations.StackInstructions : Prop :=
  let pushes := fun (op : Byte) (i : Instr) (v : State → Byte) => Encodes i [op] ∧ ∀ (s : State),
    (∀ u, busWrite (stackByte s s.cpu.sp) (v s) s = .ok u → Stored (stackByte s s.cpu.sp) (v s) s u ∧
      exec i s = .next (advanced 1 3 (u.setReg .sp (s.cpu.sp - 1)))) ∧
    (∀ f, busWrite (stackByte s s.cpu.sp) (v s) s = .error f → exec i s = .fault (.busFault (stackByte s s.cpu.sp)))
  let pulls := fun (op : Byte) (i : Instr) (effect : State → Byte → State → Prop) => Encodes i [op] ∧ ∀ (s : State),
    (∀ v s', busRead (stackByte s (s.cpu.sp + 1)) s = .ok (v, s') → ∃ u, effect s' v u ∧
      exec i s = .next (advanced 1 4 (u.setReg .sp (s.cpu.sp + 1)))) ∧
    (∀ f, busRead (stackByte s (s.cpu.sp + 1)) s = .error f → exec i s = .fault (.busFault (stackByte s (s.cpu.sp + 1))))
  pushes 0x48 .pha (fun s => s.cpu.a) ∧ pushes 0x08 .php (fun s => s.cpu.p) ∧
  pulls 0x68 .pla (fun s v u => RegTakes .a v s u) ∧ pulls 0x28 .plp (fun s v u => u = s.modifyP fun _ => v)

/-- CLC, SEC, CLI, SEI, CLD, SED, CLV: one flag, no register, no memory, 2 cycles (45_stack_flags.md R294 to R300). -/
def Obligations.FlagInstructions : Prop :=
  ∀ row ∈ flagRows, RunsAs row.1 row.2.1 2 (fun s u => FlagsTake (only row.2.2.1 row.2.2.2) s u)

/-- The 105 unassigned opcodes: a diagnostic event that names the opcode, one byte, `UNASSIGNED_CYCLES` cycles, no other change (46_unassigned.md R310, R311,
decision D16; the event is the model's form of the diagnostic, log 12). -/
def Obligations.FutureExpansion : Prop :=
  unassignedRows.length = 105 ∧ ∀ row ∈ unassignedRows, Encodes row.2 [row.1] ∧
    ∀ s, exec row.2 s = .next (advanced 1 s.cfg.unassignedCycles { s with events := .diagnostic row.1 :: s.events })

/-! ## Rules over all instructions -/

/-- An instruction that is not among a flag's writers leaves it, TXS leaves P alone unless `TXS_SETS_NZ`, and an instruction that is not among a register's
writers leaves that (10_state.md R20, R21, R26, 40_cpu_engine.md R173). -/
def Obligations.StateChangesOnlyByItsWriters : Prop :=
  ∀ (i : Instr) (s t : State), exec i s = .next t →
    (∀ f, i.mnemonic ∉ flagWriters f → t.flag f = s.flag f) ∧
    (i.mnemonic = "TXS" → s.cfg.txsSetsNZ = false → t.cpu.p = s.cpu.p) ∧
    (∀ r, i.mnemonic ∉ regWriters r → t.reg r = s.reg r)

/-- Every byte of memory reads as before, except at the addresses the instruction stores to, worked out from the state it starts in; an instruction that
stores nothing leaves all of memory (20_memory.md R74, decision D6; 10_state.md R31). -/
def Obligations.MemoryChangesOnlyWhereStored : Prop :=
  ∀ (i : Instr) (s t : State), exec i s = .next t →
    (∀ a, (∀ w ∈ storedAddresses i s, a ≠ w.toNat) → t.mem.read a = s.mem.read a) ∧
    (storedAddresses i s = [] → t.mem = s.mem)

/-- A CPU step ends in a next state, with one diagnostic event when its opcode is unassigned and none otherwise, or in a bus fault that names an address storage
does not answer; in nothing else. No step of the machine, whatever is scheduled, stops otherwise, and none is refused for want of a meaning
(40_cpu_engine.md R175, 60_exceptions.md R450, R451, decision D19). The schedule, the storage of the memory manager and the form of the event are the model's own
(logs 8, 6, 9 and 12), and so is that a refused read of a debug port stops it (log 16). -/
def Obligations.CpuStepOutcomes : Prop :=
  ∀ (s : State),
    ((∃ t op u, busRead s.cpu.ip s = .ok (op, u) ∧ cpuStep s = .next t ∧
      t.events = if op ∈ unassignedRows.map Prod.fst then .diagnostic op :: s.events else s.events) ∨
    (∃ a, cpuStep s = .fault (.busFault a) ∧ NotStored a s)) ∧
    (∀ f, step s = .fault f → ∃ a, f = .busFault a ∧ NotStored a s) ∧ ∀ r, step s ≠ .refused r

/-- No instruction depends on the TIA or on TICK, none changes the TIA, and none lowers TICK: with another TIA and TICK `k` higher it does the same
(60_exceptions.md R460, 40_cpu_engine.md R168, 10_state.md R24). -/
def Obligations.CpuIndependentOfTiaAndTick : Prop :=
  ∀ (i : Instr) (s : State) (t : Tia) (k : Nat),
    exec i (shifted t k s) = shiftedResult t k (exec i s) ∧
    ∀ u, exec i s = .next u → u.tia = s.tia ∧ s.cpu.tick ≤ u.cpu.tick

/-- With a memory manager that backs every address, every instruction completes from every state, and every run goes on, whatever is scheduled, with the
configuration unchanged (20_memory.md R76, 60_exceptions.md R450, R451, R458). -/
def Obligations.BackedMachineNeverStops : Prop :=
  ∀ (s : State), Backed s → (∀ i, Completes (exec i s)) ∧ ∀ n, ∃ t, RunsTo n s t ∧ t.cfg = s.cfg

/-- Every step keeps the invariant: memory in its canonical form and every sprite inside its value sets (10_state.md R35). -/
def Obligations.StepKeepsInvariant : Prop :=
  ∀ (s t : State), Inv s → step s = .next t → Inv t

/-! ## Reset -/

/-- The invariant holds at reset. -/
def Obligations.ResetMeetsInvariant : Prop := Inv State.reset

/-- The reset values of 10_state.md R43 and 70_reset_and_hazards.md R481, each a decision of the spec (D18, D31) and an OPEN parameter; that
memory lists nothing and no answer is scripted is the model's own (logs 5, 6). -/
def Obligations.ResetLeaves : Prop :=
  let s := State.reset
  s.cpu.a = 0 ∧ s.cpu.x = 0 ∧ s.cpu.y = 0 ∧ s.cpu.p = 0x00 ∧ s.cpu.sp = 0xFF ∧ s.cpu.ip = 0x0000 ∧ s.cpu.tick = 0 ∧
  s.tia.colubk = 0 ∧ s.tia.colupf = 0 ∧ s.tia.colup0 = 0 ∧ s.tia.colup1 = 0 ∧ s.tia.pf = 0 ∧
  s.tia.mirror = false ∧ s.tia.score = false ∧ s.tia.pfPriority = false ∧
  (∀ p ∈ [s.tia.p0, s.tia.p1], p = ⟨0, 0, 0, .x1, .one, .x1, false, false⟩) ∧
  (∀ m ∈ [s.tia.m0, s.tia.m1, s.tia.bl], m = ⟨0, 0, 0, .x1, .one, .x1, false, false⟩) ∧
  (∀ p, s.tia.collisions.has p = false) ∧ s.tia.colorClock = 0 ∧ (∀ c : Fin 160, s.tia.scanline[c] = 0) ∧ s.mem = [] ∧
  s.bus = { script := [], asked := [] }

/-! ## Runs -/

/-- One pass of a run-to-break with `left` steps left: the peek is a read of its own, and stops the pass where it is refused; the break opcode ends the run
unexecuted, tested first; the limit may end it; else it is one CPU step with the run still pending. The caller's own call starts it at the given address with
the configured limit (40_cpu_engine.md R152, 60_exceptions.md R452, decision D20; the test before the limit is log 11, one pass a step is log 8). -/
def Obligations.RunToBreakPass : Prop :=
  ∀ (s : State) (rest : List Call),
    (∀ left, s.schedule = .continueRun left :: rest →
      (∀ f, busRead s.cpu.ip s = .error f → step s = .fault f) ∧
      ∀ op u, busRead s.cpu.ip s = .ok (op, u) →
        (op = 0 → step s = .next { u with schedule := rest, events := .breakReached :: u.events }) ∧
        (op ≠ 0 → left = some 0 → step s = .next { u with schedule := rest, events := .limitReached :: u.events }) ∧
        (op ≠ 0 → left ≠ some 0 → step s = cpuStep { u with schedule := .continueRun (left.map (· - 1)) :: rest })) ∧
    (∀ start, s.schedule = .runToBreak start :: rest →
      step s = step { s with cpu := { s.cpu with ip := start.getD s.cpu.ip }
                             schedule := .continueRun s.cfg.runStepLimit :: rest })

/-- A run-to-break ends at the first state, of those the CPU's steps go through, whose byte at IP is the break opcode, with IP there, TICK without the break's
cycles, B untouched; or, where it has a limit, after that many steps if there is no break up to there (40_cpu_engine.md R152, R153, decision D20). Each opcode
looked at is in storage, where the peek changes nothing. That a break reached just when the limit is used up is reported as the break is the model's choice
(log 11), and so is that a run-to-break is one pass a step, so that `n` steps of the CPU take `n + 1` of the machine (log 8). -/
def Obligations.RunToBreakEndsAtFirstBreak : Prop :=
  ∀ (n : Nat) (s t : State) (op : Byte), s.schedule = [] → cpuRun n s = .next t →
    (∀ k, k < n → ∃ u op, cpuRun k s = .next u ∧ busRead u.cpu.ip u = .ok (op, u) ∧ op ≠ 0) →
    busRead t.cpu.ip t = .ok (op, t) →
    (op = 0 → (∀ l, s.cfg.runStepLimit = some l → n ≤ l) →
      RunsTo (n + 1) { s with schedule := [.runToBreak none] } { t with schedule := [], events := .breakReached :: t.events }) ∧
    (op ≠ 0 → s.cfg.runStepLimit = some n →
      RunsTo (n + 1) { s with schedule := [.runToBreak none] } { t with schedule := [], events := .limitReached :: t.events })

/-- The calls that are not the CPU's run the TIA's operations and record their answers: the clock, the scanline, the run to a clock value, a register write, a
register read; the inspection of a register or a flag records its value, and a snapshot the seven items of the ProcessorState. Each completes, is taken off the
schedule, and changes nothing else: the CPU, memory and the configuration stay, and a port read, an inspection and a snapshot leave the TIA too
(48_tia_compositor.md R380 to R382, 47_tia_registers.md R320, R321, 60_exceptions.md R450, R460, R462, 10_state.md R28, 20_memory.md R84; the schedule and the
record of answers are the model's own, logs 8 and 9). -/
def Obligations.OtherCallsLeaveTheCpu : Prop :=
  ∀ (s : State) (rest : List Call),
    (s.schedule = .nextClockTick :: rest →
      step s = .next { s with schedule := rest, tia := s.tia.nextClockTick.1
                              events := .ticked s.tia.nextClockTick.2 :: s.events }) ∧
    (s.schedule = .renderScanline :: rest → step s = .next { s with schedule := rest, tia := s.tia.renderScanline }) ∧
    (∀ target, s.schedule = .runToClock target :: rest →
      step s = .next { s with schedule := rest, tia := s.tia.runToClock target }) ∧
    (∀ addr v, s.schedule = .writeRegister addr v :: rest →
      step s = .next { s with schedule := rest, tia := s.tia.writeRegister s.cfg addr v }) ∧
    (∀ addr, s.schedule = .readRegister addr :: rest →
      step s = .next { s with schedule := rest, events := .registerRead addr (s.tia.readRegister addr) :: s.events }) ∧
    (∀ p ∈ probes s, s.schedule = .inspect p.1 :: rest →
      step s = .next { s with schedule := rest, events := .inspected p.1 p.2 :: s.events }) ∧
    (s.schedule = .snapshot :: rest →
      step s = .next { s with
        schedule := rest
        events := .snapshot ⟨s.cpu.a, s.cpu.x, s.cpu.y, s.cpu.sp, s.cpu.p, s.cpu.ip, s.cpu.tick⟩ :: s.events })

/-- The two debug calls that read memory. A disassembly whose bytes are answered completes and records the instruction they decode to; it reads no further than
the instruction and stops at its first refused byte. A memory probe records the byte answered, or stops at a refused one. Each is taken off the schedule and
changes nothing but what its reads do; the CPU, the TIA, memory and the configuration stay (40_cpu_engine.md R176, 60_exceptions.md R461, R462; the record is
the model's own, logs 9 and 12, and so is that a refused read ends the machine, log 16). -/
def Obligations.DebugPortsReadMemory : Prop :=
  ∀ (s : State) (addr : Word) (rest : List Call),
    (s.schedule = .disassembleStep addr :: rest →
      (∀ bs i t, decode bs = .ok (i, []) → ReadsInTurn addr bs s t →
        step s = .next { t with schedule := rest, events := .disassembled addr i :: s.events } ∧ t = { s with bus := t.bus }) ∧
      (∀ f, busRead addr s = .error f → step s = .fault (.busFault addr)) ∧
      ∀ op s₁, busRead addr s = .ok (op, s₁) → 2 ≤ (formatOf op).size →
        (∀ f, busRead (addr + 1) s₁ = .error f → step s = .fault (.busFault (addr + 1))) ∧
        (∀ b s₂ f, busRead (addr + 1) s₁ = .ok (b, s₂) → (formatOf op).size = 3 → busRead (addr + 2) s₂ = .error f →
          step s = .fault (.busFault (addr + 2)))) ∧
    (s.schedule = .inspect (.m addr) :: rest →
      (∀ v t, busRead addr s = .ok (v, t) →
        step s = .next { t with schedule := rest, events := .inspected (.m addr) v.toNat :: s.events } ∧
        t = { s with bus := t.bus }) ∧
      (∀ f, busRead addr s = .error f → step s = .fault (.busFault addr)))

/-! ## The TIA's clock and compositor -/

/-- One tick: the clock goes one on and wraps at 228, `true` is answered from 227 only; below 68 nothing else changes; from 68 on exactly the entry of its
column is written, with that column's colour, and the pairs on there are latched; no register changes (48_tia_compositor.md R380, 49 R423, decision D22). -/
def Obligations.ClockTick : Prop :=
  ∀ (t : Tia), ∃ u, t.nextClockTick = (u, decide (t.colorClock.val = 227)) ∧
    u.colorClock.val = (t.colorClock.val + 1) % 228 ∧
    u = { t with scanline := u.scanline, collisions := u.collisions, colorClock := u.colorClock } ∧
    (t.colorClock.val < 68 → u = { t with colorClock := u.colorClock }) ∧
    ∀ c : Fin 160, t.colorClock.val = 68 + c.val →
      u.scanline = t.scanline.set c.val (t.colourAt c) ∧
      ∀ p : Pair, u.collisions.has p =
        (t.collisions.has p || (t.onAt c).get p.objects.1 && (t.onAt c).get p.objects.2)

/-- `renderScanline` ends at clock 0 having drawn every column from the current clock on, and only those; it latches every pair on at one of them, and forgets
none; no register changes (48_tia_compositor.md R381). -/
def Obligations.RenderScanlineDrawsTheRestOfTheLine : Prop :=
  ∀ (t : Tia), ∃ u, t.renderScanline = u ∧ u = { t with scanline := u.scanline, collisions := u.collisions, colorClock := 0 } ∧
    (∀ c : Fin 160, u.scanline[c] = if t.colorClock.val ≤ 68 + c.val then t.colourAt c else t.scanline[c]) ∧
    ∀ p : Pair, u.collisions.has p = true ↔ t.collisions.has p = true ∨
      ∃ c : Fin 160, t.colorClock.val ≤ 68 + c.val ∧ (t.onAt c).get p.objects.1 = true ∧ (t.onAt c).get p.objects.2 = true

/-- `runToClock(target)` is exactly the ticks that bring the clock to the target, none when it is there, through the end of the line when the target is
behind, and leaves it there (48_tia_compositor.md R382). -/
def Obligations.RunToClockStopsAtTarget : Prop :=
  ∀ (t : Tia) (target : Fin 228),
    t.runToClock target = ticks ((target.val + 228 - t.colorClock.val) % 228) t ∧ (t.runToClock target).colorClock = target

/-- The colour of a column is that of the first object on, in the order M0, P0, M1, P1, BL, PF, or PF first with playfield priority, else the background
(48_tia_compositor.md R388, R389, R390, decision D27). -/
def Obligations.ColourPriority : Prop :=
  ∀ (t : Tia) (c : Fin 160),
    let on := t.onAt c
    let sprites := [(on.m0, t.colup0), (on.p0, t.colup0), (on.m1, t.colup1), (on.p1, t.colup1), (on.bl, t.colupf)]
    let playfield := (on.pf, if t.score then (if c.val < 80 then t.colup0 else t.colup1) else t.colupf)
    t.colourAt c = firstOn t.colubk (if t.pfPriority then playfield :: sprites else sprites ++ [playfield])

/-- Where a playfield bit shows: four columns a bit on the left, repeated or mirrored on the right (48_tia_compositor.md R384). -/
def Obligations.PlayfieldHalves : Prop :=
  ∀ (t : Tia),
    (∀ (i : Fin 20) (c : Fin 160), 4 * i.val ≤ c.val → c.val < 4 * i.val + 4 → t.pfOn c = t.pf.getLsbD i.val) ∧
    (∀ (c d : Fin 160), c.val < 80 →
      (t.mirror = false → d.val = c.val + 80 → t.pfOn d = t.pfOn c) ∧
      (t.mirror = true → d.val = 159 - c.val → t.pfOn d = t.pfOn c))

/-- Where a sprite is drawn: a player at the columns of its copies, each `8*scale` wide and `8*scale*spacing` apart, where the pattern bit of the column is
on, the highest bit leftmost or, mirrored, the lowest; one copy at most at a column; a missile or the ball where its one block of `scale` columns is and its
bit is on; nothing delayed is drawn (48_tia_compositor.md R386, R387, decision D25). -/
def Obligations.SpriteSpans : Prop :=
  (∀ (p : Sprite 8) (c : Fin 160), p.drawn c = true ↔ p.delayed = false ∧
    ∃ k start q : Nat, k < p.copies.toNat ∧ start = p.x.val + k * (8 * p.scale.toNat * p.spacing.toNat) ∧
      start ≤ c.val ∧ c.val < start + 8 * p.scale.toNat ∧ q = (c.val - start) / p.scale.toNat ∧
      p.bits.getLsbD (if p.mirror then q else 7 - q) = true) ∧
  (∀ (p : Sprite 8) (c : Fin 160) (j k : Nat), p.copyDrawn j c = true → p.copyDrawn k c = true → j = k) ∧
  ∀ (m : Sprite 1) (c : Fin 160), m.legalSingle →
    (m.drawn c = true ↔ m.delayed = false ∧ m.bits = 1 ∧ m.x.val ≤ c.val ∧ c.val < m.x.val + m.scale.toNat)

/-! ## The TIA's registers -/

/-- PF0, PF1, PF2: which written bit lands in which playfield bit; the others, and all else, are kept (47_tia_registers.md R335, R336, R337). -/
def Obligations.PlayfieldRegisters : Prop :=
  ∀ (cfg : Config) (t : Tia) (v : Byte),
    (∃ pf : BitVec 20, t.writeRegister cfg 0x0D v = { t with pf := pf } ∧
      ∀ i, i < 20 → pf.getLsbD i = if i < 4 then v.getLsbD (4 + i) else t.pf.getLsbD i) ∧
    (∃ pf : BitVec 20, t.writeRegister cfg 0x0E v = { t with pf := pf } ∧
      ∀ i, i < 20 → pf.getLsbD i = if 4 ≤ i ∧ i < 12 then v.getLsbD (7 - (i - 4)) else t.pf.getLsbD i) ∧
    (∃ pf : BitVec 20, t.writeRegister cfg 0x0F v = { t with pf := pf } ∧
      ∀ i, i < 20 → pf.getLsbD i = if 12 ≤ i then v.getLsbD (i - 12) else t.pf.getLsbD i)

/-- The colour, control and graphics registers: each writes its field and nothing else (47_tia_registers.md R326 to R334, R344 to R348, R354 to R356, R373,
R376, decisions D25, D26, D28). -/
def Obligations.ControlRegisters : Prop :=
  ∀ (cfg : Config) (t : Tia) (v : Byte),
    let bit := fun k => decide (v.toNat / 2 ^ k % 2 = 1)
    let one := BitVec.ofNat 1 (v.toNat / 2)
    let w := fun a => t.writeRegister cfg a v
    (∃ q m, TakesGeometry (v.toNat % 8) t.p0 q ∧ TakesSize (v.toNat / 16 % 4) t.m0 m ∧ w 0x04 = { t with p0 := q, m0 := m }) ∧
    (∃ q m, TakesGeometry (v.toNat % 8) t.p1 q ∧ TakesSize (v.toNat / 16 % 4) t.m1 m ∧ w 0x05 = { t with p1 := q, m1 := m }) ∧
    w 0x06 = { t with colup0 := v } ∧ w 0x07 = { t with colup1 := v } ∧ w 0x08 = { t with colupf := v } ∧
    w 0x09 = { t with colubk := v } ∧
    (∃ m, TakesSize (v.toNat / 16 % 4) t.bl m ∧
      w 0x0A = { t with mirror := bit 0, score := bit 1, pfPriority := bit 2, bl := m }) ∧
    w 0x0B = { t with p0 := { t.p0 with mirror := bit 3 } } ∧ w 0x0C = { t with p1 := { t.p1 with mirror := bit 3 } } ∧
    w 0x1B = { t with p0 := { t.p0 with bits := v } } ∧ w 0x1C = { t with p1 := { t.p1 with bits := v } } ∧
    w 0x1D = { t with m0 := { t.m0 with bits := one } } ∧ w 0x1E = { t with m1 := { t.m1 with bits := one } } ∧
    w 0x1F = { t with bl := { t.bl with bits := one } } ∧
    w 0x25 = { t with p0 := { t.p0 with delayed := bit 0 } } ∧ w 0x26 = { t with p1 := { t.p1 with delayed := bit 0 } } ∧
    w 0x27 = { t with bl := { t.bl with delayed := bit 0 } }

/-- The motion registers and strobes: HMxx set the signed delta; RESxx capture the current column, the parameter's in horizontal blank; HMOVE moves all five
sprites by their deltas, kept, stopped at the edges; HMCLR clears the deltas (47_tia_registers.md R338 to R342, R349 to R353, R374, R375,
49_tia_motion_collision.md R420, R421, decisions D23, D24). -/
def Obligations.MotionRegisters : Prop :=
  ∀ (cfg : Config) (t : Tia) (v : Byte),
    let w := fun a => t.writeRegister cfg a v
    (∃ q, TakesMotion v t.p0 q ∧ w 0x20 = { t with p0 := q }) ∧ (∃ q, TakesMotion v t.p1 q ∧ w 0x21 = { t with p1 := q }) ∧
    (∃ q, TakesMotion v t.m0 q ∧ w 0x22 = { t with m0 := q }) ∧ (∃ q, TakesMotion v t.m1 q ∧ w 0x23 = { t with m1 := q }) ∧
    (∃ q, TakesMotion v t.bl q ∧ w 0x24 = { t with bl := q }) ∧
    (∃ q, TakesColumn cfg t t.p0 q ∧ w 0x10 = { t with p0 := q }) ∧ (∃ q, TakesColumn cfg t t.p1 q ∧ w 0x11 = { t with p1 := q }) ∧
    (∃ q, TakesColumn cfg t t.m0 q ∧ w 0x12 = { t with m0 := q }) ∧ (∃ q, TakesColumn cfg t t.m1 q ∧ w 0x13 = { t with m1 := q }) ∧
    (∃ q, TakesColumn cfg t t.bl q ∧ w 0x14 = { t with bl := q }) ∧
    (∀ dir : Int, dir = (match cfg.hmoveDir with | .right => 1 | .left => -1) →
      ∃ p0 p1 m0 m1 bl, Moves dir t.p0 p0 ∧ Moves dir t.p1 p1 ∧ Moves dir t.m0 m0 ∧ Moves dir t.m1 m1 ∧ Moves dir t.bl bl ∧
        w 0x2A = { t with p0 := p0, p1 := p1, m0 := m0, m1 := m1, bl := bl }) ∧
    w 0x2B = { t with p0 := { t.p0 with hm := 0 }, p1 := { t.p1 with hm := 0 }, m0 := { t.m0 with hm := 0 }
                      m1 := { t.m1 with hm := 0 }, bl := { t.bl with hm := 0 } }

/-- A write never moves the clock and never touches the output, takes no category back but by CXCLR, and is ignored at the sync, audio and missile-lock
registers and past 0x2C; a read outside the eight collision registers is 0 (47_tia_registers.md R320 to R325, R343, R357, R358, R362, R371, R372, 49 R424,
decisions D29, D30). -/
def Obligations.PortsIgnoreTheRest : Prop :=
  ∀ (cfg : Config) (addr : Nat) (v : Byte) (t : Tia),
    (t.writeRegister cfg addr v).colorClock = t.colorClock ∧ (t.writeRegister cfg addr v).scanline = t.scanline ∧
    (addr ≠ 0x2C → (t.writeRegister cfg addr v).collisions = t.collisions) ∧
    (addr ∈ [0x00, 0x01, 0x02, 0x03, 0x15, 0x16, 0x17, 0x18, 0x19, 0x1A, 0x28, 0x29] ∨ 0x2C < addr →
      t.writeRegister cfg addr v = t) ∧
    (addr < 0x30 ∨ 0x37 < addr → t.readRegister addr = 0)

/-! ## Collisions -/

/-- The eight collision registers: which two categories each shows in bits 7 and 6 (47_tia_registers.md R363 to R370), the other six bits 0 (section 4, decision
D29). -/
def Obligations.CollisionReadMap : Prop :=
  ∀ (t : Tia),
    let k := t.collisions
    t.readRegister 0x30 = topBits k.m0P1 k.p0M0 ∧ t.readRegister 0x31 = topBits k.p0M1 k.p1M1 ∧
    t.readRegister 0x32 = topBits k.pfP0 k.blP0 ∧ t.readRegister 0x33 = topBits k.pfP1 k.blP1 ∧
    t.readRegister 0x34 = topBits k.pfM0 k.blM0 ∧ t.readRegister 0x35 = topBits k.pfM1 k.blM1 ∧
    t.readRegister 0x36 = topBits k.pfBl false ∧ t.readRegister 0x37 = topBits k.p0P1 k.m0M1

/-- A latched category stays through every step of the machine but a write to CXCLR, which clears them all (49_tia_motion_collision.md R423, R424). -/
def Obligations.LatchesStayUntilCxclr : Prop :=
  (∀ (s t : State) (p : Pair), step s = .next t → (∀ v rest, s.schedule ≠ .writeRegister 0x2C v :: rest) →
    s.tia.collisions.has p = true → t.tia.collisions.has p = true) ∧
  ∀ (cfg : Config) (t : Tia) (v : Byte) (p : Pair), (t.writeRegister cfg 0x2C v).collisions.has p = false

/-- The collision-algebra property: from any TIA with its sprites at column 0, neither delayed nor reflected, in horizontal blank, the writes of R426 and one
scanline make every collision register the pairwise AND of the enables, for all 64 of them (49_tia_motion_collision.md R426). -/
def Obligations.CollisionAlgebra : Prop :=
  ∀ (cfg : Config) (t : Tia) (e : Enables), t.Legal → t.colorClock.val ≤ 68 →
    t.p0.x = 0 → t.p1.x = 0 → t.m0.x = 0 → t.m1.x = 0 → t.bl.x = 0 →
    t.p0.delayed = false → t.p1.delayed = false → t.bl.delayed = false → t.p0.mirror = false → t.p1.mirror = false →
    ∃ u, (writeAll cfg e.writes t).renderScanline = u ∧
      u.readRegister 0x30 = topBits (e.m0 && e.p1) (e.m0 && e.p0) ∧ u.readRegister 0x31 = topBits (e.m1 && e.p0) (e.m1 && e.p1) ∧
      u.readRegister 0x32 = topBits (e.p0 && e.pf) (e.p0 && e.bl) ∧ u.readRegister 0x33 = topBits (e.p1 && e.pf) (e.p1 && e.bl) ∧
      u.readRegister 0x34 = topBits (e.m0 && e.pf) (e.m0 && e.bl) ∧ u.readRegister 0x35 = topBits (e.m1 && e.pf) (e.m1 && e.bl) ∧
      u.readRegister 0x36 = topBits (e.bl && e.pf) false ∧ u.readRegister 0x37 = topBits (e.p0 && e.p1) (e.m0 && e.m1)
end

