-- ==== Sys2Proof/Laws/State.lean ====
section
/-! SUPPORT. One lemma per field per update of State, all true by unfolding the update once, so that no later proof unfolds one. -/

namespace Sys2Proof.Machine

@[simp] theorem State.setReg_a_cpu_a (v : Byte) (s : State) : (s.setReg .a v).cpu.a = v := rfl

@[simp] theorem State.setReg_a_cpu_x (v : Byte) (s : State) : (s.setReg .a v).cpu.x = s.cpu.x := rfl

@[simp] theorem State.setReg_a_cpu_y (v : Byte) (s : State) : (s.setReg .a v).cpu.y = s.cpu.y := rfl

@[simp] theorem State.setReg_a_cpu_sp (v : Byte) (s : State) : (s.setReg .a v).cpu.sp = s.cpu.sp := rfl

@[simp] theorem State.setReg_x_cpu_a (v : Byte) (s : State) : (s.setReg .x v).cpu.a = s.cpu.a := rfl

@[simp] theorem State.setReg_x_cpu_x (v : Byte) (s : State) : (s.setReg .x v).cpu.x = v := rfl

@[simp] theorem State.setReg_x_cpu_y (v : Byte) (s : State) : (s.setReg .x v).cpu.y = s.cpu.y := rfl

@[simp] theorem State.setReg_x_cpu_sp (v : Byte) (s : State) : (s.setReg .x v).cpu.sp = s.cpu.sp := rfl

@[simp] theorem State.setReg_y_cpu_a (v : Byte) (s : State) : (s.setReg .y v).cpu.a = s.cpu.a := rfl

@[simp] theorem State.setReg_y_cpu_x (v : Byte) (s : State) : (s.setReg .y v).cpu.x = s.cpu.x := rfl

@[simp] theorem State.setReg_y_cpu_y (v : Byte) (s : State) : (s.setReg .y v).cpu.y = v := rfl

@[simp] theorem State.setReg_y_cpu_sp (v : Byte) (s : State) : (s.setReg .y v).cpu.sp = s.cpu.sp := rfl

@[simp] theorem State.setReg_sp_cpu_a (v : Byte) (s : State) : (s.setReg .sp v).cpu.a = s.cpu.a := rfl

@[simp] theorem State.setReg_sp_cpu_x (v : Byte) (s : State) : (s.setReg .sp v).cpu.x = s.cpu.x := rfl

@[simp] theorem State.setReg_sp_cpu_y (v : Byte) (s : State) : (s.setReg .sp v).cpu.y = s.cpu.y := rfl

@[simp] theorem State.setReg_sp_cpu_sp (v : Byte) (s : State) : (s.setReg .sp v).cpu.sp = v := rfl

@[simp] theorem State.setReg_cpu_p (r : Reg) (v : Byte) (s : State) : (s.setReg r v).cpu.p = s.cpu.p :=
  by cases r <;> rfl

@[simp] theorem State.setReg_cpu_ip (r : Reg) (v : Byte) (s : State) : (s.setReg r v).cpu.ip = s.cpu.ip :=
  by cases r <;> rfl

@[simp] theorem State.setReg_cpu_nip (r : Reg) (v : Byte) (s : State) : (s.setReg r v).cpu.nip = s.cpu.nip :=
  by cases r <;> rfl

@[simp] theorem State.setReg_cpu_tick (r : Reg) (v : Byte) (s : State) : (s.setReg r v).cpu.tick = s.cpu.tick :=
  by cases r <;> rfl

@[simp] theorem State.setReg_tia (r : Reg) (v : Byte) (s : State) : (s.setReg r v).tia = s.tia :=
  by cases r <;> rfl

@[simp] theorem State.setReg_mem (r : Reg) (v : Byte) (s : State) : (s.setReg r v).mem = s.mem :=
  by cases r <;> rfl

@[simp] theorem State.setReg_bus (r : Reg) (v : Byte) (s : State) : (s.setReg r v).bus = s.bus :=
  by cases r <;> rfl

@[simp] theorem State.setReg_cfg (r : Reg) (v : Byte) (s : State) : (s.setReg r v).cfg = s.cfg :=
  by cases r <;> rfl

@[simp] theorem State.setReg_schedule (r : Reg) (v : Byte) (s : State) : (s.setReg r v).schedule = s.schedule :=
  by cases r <;> rfl

@[simp] theorem State.setReg_events (r : Reg) (v : Byte) (s : State) : (s.setReg r v).events = s.events :=
  by cases r <;> rfl

@[simp] theorem State.setReg_draws (r : Reg) (v : Byte) (s : State) : (s.setReg r v).draws = s.draws :=
  by cases r <;> rfl

@[simp] theorem State.reg_a (s : State) : s.reg .a = s.cpu.a := rfl

@[simp] theorem State.reg_x (s : State) : s.reg .x = s.cpu.x := rfl

@[simp] theorem State.reg_y (s : State) : s.reg .y = s.cpu.y := rfl

@[simp] theorem State.reg_sp (s : State) : s.reg .sp = s.cpu.sp := rfl

@[simp] theorem State.modifyP_cpu_a (f : Byte → Byte) (s : State) : (s.modifyP f).cpu.a = s.cpu.a := rfl

@[simp] theorem State.modifyP_cpu_x (f : Byte → Byte) (s : State) : (s.modifyP f).cpu.x = s.cpu.x := rfl

@[simp] theorem State.modifyP_cpu_y (f : Byte → Byte) (s : State) : (s.modifyP f).cpu.y = s.cpu.y := rfl

@[simp] theorem State.modifyP_cpu_sp (f : Byte → Byte) (s : State) : (s.modifyP f).cpu.sp = s.cpu.sp := rfl

@[simp] theorem State.modifyP_cpu_p (f : Byte → Byte) (s : State) : (s.modifyP f).cpu.p = f s.cpu.p := rfl

@[simp] theorem State.modifyP_cpu_ip (f : Byte → Byte) (s : State) : (s.modifyP f).cpu.ip = s.cpu.ip := rfl

@[simp] theorem State.modifyP_cpu_nip (f : Byte → Byte) (s : State) : (s.modifyP f).cpu.nip = s.cpu.nip := rfl

@[simp] theorem State.modifyP_cpu_tick (f : Byte → Byte) (s : State) : (s.modifyP f).cpu.tick = s.cpu.tick := rfl

@[simp] theorem State.modifyP_tia (f : Byte → Byte) (s : State) : (s.modifyP f).tia = s.tia := rfl

@[simp] theorem State.modifyP_mem (f : Byte → Byte) (s : State) : (s.modifyP f).mem = s.mem := rfl

@[simp] theorem State.modifyP_bus (f : Byte → Byte) (s : State) : (s.modifyP f).bus = s.bus := rfl

@[simp] theorem State.modifyP_cfg (f : Byte → Byte) (s : State) : (s.modifyP f).cfg = s.cfg := rfl

@[simp] theorem State.modifyP_schedule (f : Byte → Byte) (s : State) : (s.modifyP f).schedule = s.schedule := rfl

@[simp] theorem State.modifyP_events (f : Byte → Byte) (s : State) : (s.modifyP f).events = s.events := rfl

@[simp] theorem State.modifyP_draws (f : Byte → Byte) (s : State) : (s.modifyP f).draws = s.draws := rfl

@[simp] theorem State.setFlag_cpu_a (f : Flag) (v : Bool) (s : State) : (s.setFlag f v).cpu.a = s.cpu.a := rfl

@[simp] theorem State.setFlag_cpu_x (f : Flag) (v : Bool) (s : State) : (s.setFlag f v).cpu.x = s.cpu.x := rfl

@[simp] theorem State.setFlag_cpu_y (f : Flag) (v : Bool) (s : State) : (s.setFlag f v).cpu.y = s.cpu.y := rfl

@[simp] theorem State.setFlag_cpu_sp (f : Flag) (v : Bool) (s : State) : (s.setFlag f v).cpu.sp = s.cpu.sp := rfl

@[simp] theorem State.setFlag_cpu_p (f : Flag) (v : Bool) (s : State) : (s.setFlag f v).cpu.p = putFlag f v s.cpu.p := rfl

@[simp] theorem State.setFlag_cpu_ip (f : Flag) (v : Bool) (s : State) : (s.setFlag f v).cpu.ip = s.cpu.ip := rfl

@[simp] theorem State.setFlag_cpu_nip (f : Flag) (v : Bool) (s : State) : (s.setFlag f v).cpu.nip = s.cpu.nip := rfl

@[simp] theorem State.setFlag_cpu_tick (f : Flag) (v : Bool) (s : State) : (s.setFlag f v).cpu.tick = s.cpu.tick := rfl

@[simp] theorem State.setFlag_tia (f : Flag) (v : Bool) (s : State) : (s.setFlag f v).tia = s.tia := rfl

@[simp] theorem State.setFlag_mem (f : Flag) (v : Bool) (s : State) : (s.setFlag f v).mem = s.mem := rfl

@[simp] theorem State.setFlag_bus (f : Flag) (v : Bool) (s : State) : (s.setFlag f v).bus = s.bus := rfl

@[simp] theorem State.setFlag_cfg (f : Flag) (v : Bool) (s : State) : (s.setFlag f v).cfg = s.cfg := rfl

@[simp] theorem State.setFlag_schedule (f : Flag) (v : Bool) (s : State) : (s.setFlag f v).schedule = s.schedule := rfl

@[simp] theorem State.setFlag_events (f : Flag) (v : Bool) (s : State) : (s.setFlag f v).events = s.events := rfl

@[simp] theorem State.setFlag_draws (f : Flag) (v : Bool) (s : State) : (s.setFlag f v).draws = s.draws := rfl

@[simp] theorem State.setNZ_cpu_a (v : Byte) (s : State) : (s.setNZ v).cpu.a = s.cpu.a := rfl

@[simp] theorem State.setNZ_cpu_x (v : Byte) (s : State) : (s.setNZ v).cpu.x = s.cpu.x := rfl

@[simp] theorem State.setNZ_cpu_y (v : Byte) (s : State) : (s.setNZ v).cpu.y = s.cpu.y := rfl

@[simp] theorem State.setNZ_cpu_sp (v : Byte) (s : State) : (s.setNZ v).cpu.sp = s.cpu.sp := rfl

@[simp] theorem State.setNZ_cpu_p (v : Byte) (s : State) : (s.setNZ v).cpu.p = putNZ v s.cpu.p := rfl

@[simp] theorem State.setNZ_cpu_ip (v : Byte) (s : State) : (s.setNZ v).cpu.ip = s.cpu.ip := rfl

@[simp] theorem State.setNZ_cpu_nip (v : Byte) (s : State) : (s.setNZ v).cpu.nip = s.cpu.nip := rfl

@[simp] theorem State.setNZ_cpu_tick (v : Byte) (s : State) : (s.setNZ v).cpu.tick = s.cpu.tick := rfl

@[simp] theorem State.setNZ_tia (v : Byte) (s : State) : (s.setNZ v).tia = s.tia := rfl

@[simp] theorem State.setNZ_mem (v : Byte) (s : State) : (s.setNZ v).mem = s.mem := rfl

@[simp] theorem State.setNZ_bus (v : Byte) (s : State) : (s.setNZ v).bus = s.bus := rfl

@[simp] theorem State.setNZ_cfg (v : Byte) (s : State) : (s.setNZ v).cfg = s.cfg := rfl

@[simp] theorem State.setNZ_schedule (v : Byte) (s : State) : (s.setNZ v).schedule = s.schedule := rfl

@[simp] theorem State.setNZ_events (v : Byte) (s : State) : (s.setNZ v).events = s.events := rfl

@[simp] theorem State.setNZ_draws (v : Byte) (s : State) : (s.setNZ v).draws = s.draws := rfl

@[simp] theorem State.setNip_cpu_a (t : Word) (s : State) : (s.setNip t).cpu.a = s.cpu.a := rfl

@[simp] theorem State.setNip_cpu_x (t : Word) (s : State) : (s.setNip t).cpu.x = s.cpu.x := rfl

@[simp] theorem State.setNip_cpu_y (t : Word) (s : State) : (s.setNip t).cpu.y = s.cpu.y := rfl

@[simp] theorem State.setNip_cpu_sp (t : Word) (s : State) : (s.setNip t).cpu.sp = s.cpu.sp := rfl

@[simp] theorem State.setNip_cpu_p (t : Word) (s : State) : (s.setNip t).cpu.p = s.cpu.p := rfl

@[simp] theorem State.setNip_cpu_ip (t : Word) (s : State) : (s.setNip t).cpu.ip = s.cpu.ip := rfl

@[simp] theorem State.setNip_cpu_nip (t : Word) (s : State) : (s.setNip t).cpu.nip = t := rfl

@[simp] theorem State.setNip_cpu_tick (t : Word) (s : State) : (s.setNip t).cpu.tick = s.cpu.tick := rfl

@[simp] theorem State.setNip_tia (t : Word) (s : State) : (s.setNip t).tia = s.tia := rfl

@[simp] theorem State.setNip_mem (t : Word) (s : State) : (s.setNip t).mem = s.mem := rfl

@[simp] theorem State.setNip_bus (t : Word) (s : State) : (s.setNip t).bus = s.bus := rfl

@[simp] theorem State.setNip_cfg (t : Word) (s : State) : (s.setNip t).cfg = s.cfg := rfl

@[simp] theorem State.setNip_schedule (t : Word) (s : State) : (s.setNip t).schedule = s.schedule := rfl

@[simp] theorem State.setNip_events (t : Word) (s : State) : (s.setNip t).events = s.events := rfl

@[simp] theorem State.setNip_draws (t : Word) (s : State) : (s.setNip t).draws = s.draws := rfl

@[simp] theorem State.emit_cpu_a (e : Event) (s : State) : (s.emit e).cpu.a = s.cpu.a := rfl

@[simp] theorem State.emit_cpu_x (e : Event) (s : State) : (s.emit e).cpu.x = s.cpu.x := rfl

@[simp] theorem State.emit_cpu_y (e : Event) (s : State) : (s.emit e).cpu.y = s.cpu.y := rfl

@[simp] theorem State.emit_cpu_sp (e : Event) (s : State) : (s.emit e).cpu.sp = s.cpu.sp := rfl

@[simp] theorem State.emit_cpu_p (e : Event) (s : State) : (s.emit e).cpu.p = s.cpu.p := rfl

@[simp] theorem State.emit_cpu_ip (e : Event) (s : State) : (s.emit e).cpu.ip = s.cpu.ip := rfl

@[simp] theorem State.emit_cpu_nip (e : Event) (s : State) : (s.emit e).cpu.nip = s.cpu.nip := rfl

@[simp] theorem State.emit_cpu_tick (e : Event) (s : State) : (s.emit e).cpu.tick = s.cpu.tick := rfl

@[simp] theorem State.emit_tia (e : Event) (s : State) : (s.emit e).tia = s.tia := rfl

@[simp] theorem State.emit_mem (e : Event) (s : State) : (s.emit e).mem = s.mem := rfl

@[simp] theorem State.emit_bus (e : Event) (s : State) : (s.emit e).bus = s.bus := rfl

@[simp] theorem State.emit_cfg (e : Event) (s : State) : (s.emit e).cfg = s.cfg := rfl

@[simp] theorem State.emit_schedule (e : Event) (s : State) : (s.emit e).schedule = s.schedule := rfl

@[simp] theorem State.emit_events (e : Event) (s : State) : (s.emit e).events = e :: s.events := rfl

@[simp] theorem State.emit_draws (e : Event) (s : State) : (s.emit e).draws = s.draws := rfl

@[simp] theorem State.commit_cpu_a (n : Nat) (s : State) : (s.commit n).cpu.a = s.cpu.a := rfl

@[simp] theorem State.commit_cpu_x (n : Nat) (s : State) : (s.commit n).cpu.x = s.cpu.x := rfl

@[simp] theorem State.commit_cpu_y (n : Nat) (s : State) : (s.commit n).cpu.y = s.cpu.y := rfl

@[simp] theorem State.commit_cpu_sp (n : Nat) (s : State) : (s.commit n).cpu.sp = s.cpu.sp := rfl

@[simp] theorem State.commit_cpu_p (n : Nat) (s : State) : (s.commit n).cpu.p = s.cpu.p := rfl

@[simp] theorem State.commit_cpu_ip (n : Nat) (s : State) : (s.commit n).cpu.ip = s.cpu.nip := rfl

@[simp] theorem State.commit_cpu_nip (n : Nat) (s : State) : (s.commit n).cpu.nip = s.cpu.nip := rfl

@[simp] theorem State.commit_cpu_tick (n : Nat) (s : State) : (s.commit n).cpu.tick = s.cpu.tick + n := rfl

@[simp] theorem State.commit_tia (n : Nat) (s : State) : (s.commit n).tia = s.tia := rfl

@[simp] theorem State.commit_mem (n : Nat) (s : State) : (s.commit n).mem = s.mem := rfl

@[simp] theorem State.commit_bus (n : Nat) (s : State) : (s.commit n).bus = s.bus := rfl

@[simp] theorem State.commit_cfg (n : Nat) (s : State) : (s.commit n).cfg = s.cfg := rfl

@[simp] theorem State.commit_schedule (n : Nat) (s : State) : (s.commit n).schedule = s.schedule := rfl

@[simp] theorem State.commit_events (n : Nat) (s : State) : (s.commit n).events = s.events := rfl

@[simp] theorem State.commit_draws (n : Nat) (s : State) : (s.commit n).draws = s.draws := rfl

@[simp] theorem State.withTia_cpu_a (t : Tia) (s : State) : (s.withTia t).cpu.a = s.cpu.a := rfl

@[simp] theorem State.withTia_cpu_x (t : Tia) (s : State) : (s.withTia t).cpu.x = s.cpu.x := rfl

@[simp] theorem State.withTia_cpu_y (t : Tia) (s : State) : (s.withTia t).cpu.y = s.cpu.y := rfl

@[simp] theorem State.withTia_cpu_sp (t : Tia) (s : State) : (s.withTia t).cpu.sp = s.cpu.sp := rfl

@[simp] theorem State.withTia_cpu_p (t : Tia) (s : State) : (s.withTia t).cpu.p = s.cpu.p := rfl

@[simp] theorem State.withTia_cpu_ip (t : Tia) (s : State) : (s.withTia t).cpu.ip = s.cpu.ip := rfl

@[simp] theorem State.withTia_cpu_nip (t : Tia) (s : State) : (s.withTia t).cpu.nip = s.cpu.nip := rfl

@[simp] theorem State.withTia_cpu_tick (t : Tia) (s : State) : (s.withTia t).cpu.tick = s.cpu.tick := rfl

@[simp] theorem State.withTia_tia (t : Tia) (s : State) : (s.withTia t).tia = t := rfl

@[simp] theorem State.withTia_mem (t : Tia) (s : State) : (s.withTia t).mem = s.mem := rfl

@[simp] theorem State.withTia_bus (t : Tia) (s : State) : (s.withTia t).bus = s.bus := rfl

@[simp] theorem State.withTia_cfg (t : Tia) (s : State) : (s.withTia t).cfg = s.cfg := rfl

@[simp] theorem State.withTia_schedule (t : Tia) (s : State) : (s.withTia t).schedule = s.schedule := rfl

@[simp] theorem State.withTia_events (t : Tia) (s : State) : (s.withTia t).events = s.events := rfl

@[simp] theorem State.withTia_draws (t : Tia) (s : State) : (s.withTia t).draws = s.draws := rfl

@[simp] theorem State.drawBit_cpu_a  (s : State) : (s.drawBit.2).cpu.a = s.cpu.a := rfl

@[simp] theorem State.drawBit_cpu_x  (s : State) : (s.drawBit.2).cpu.x = s.cpu.x := rfl

@[simp] theorem State.drawBit_cpu_y  (s : State) : (s.drawBit.2).cpu.y = s.cpu.y := rfl

@[simp] theorem State.drawBit_cpu_sp  (s : State) : (s.drawBit.2).cpu.sp = s.cpu.sp := rfl

@[simp] theorem State.drawBit_cpu_p  (s : State) : (s.drawBit.2).cpu.p = s.cpu.p := rfl

@[simp] theorem State.drawBit_cpu_ip  (s : State) : (s.drawBit.2).cpu.ip = s.cpu.ip := rfl

@[simp] theorem State.drawBit_cpu_nip  (s : State) : (s.drawBit.2).cpu.nip = s.cpu.nip := rfl

@[simp] theorem State.drawBit_cpu_tick  (s : State) : (s.drawBit.2).cpu.tick = s.cpu.tick := rfl

@[simp] theorem State.drawBit_tia  (s : State) : (s.drawBit.2).tia = s.tia := rfl

@[simp] theorem State.drawBit_mem  (s : State) : (s.drawBit.2).mem = s.mem := rfl

@[simp] theorem State.drawBit_bus  (s : State) : (s.drawBit.2).bus = s.bus := rfl

@[simp] theorem State.drawBit_cfg  (s : State) : (s.drawBit.2).cfg = s.cfg := rfl

@[simp] theorem State.drawBit_schedule  (s : State) : (s.drawBit.2).schedule = s.schedule := rfl

@[simp] theorem State.drawBit_events  (s : State) : (s.drawBit.2).events = s.events := rfl

@[simp] theorem State.drawBit_draws  (s : State) : (s.drawBit.2).draws = s.draws + 1 := rfl

@[simp] theorem State.drawBit_fst (s : State) : s.drawBit.1 = Config.freeBit s.draws := rfl

@[simp] theorem State.withBus_cpu (b : Bus) (s : State) : (s.withBus b).cpu = s.cpu := rfl

@[simp] theorem State.withBus_tia (b : Bus) (s : State) : (s.withBus b).tia = s.tia := rfl

@[simp] theorem State.withBus_mem (b : Bus) (s : State) : (s.withBus b).mem = s.mem := rfl

@[simp] theorem State.withBus_bus (b : Bus) (s : State) : (s.withBus b).bus = b := rfl

@[simp] theorem State.withBus_cfg (b : Bus) (s : State) : (s.withBus b).cfg = s.cfg := rfl

@[simp] theorem State.withBus_schedule (b : Bus) (s : State) : (s.withBus b).schedule = s.schedule := rfl

@[simp] theorem State.withBus_events (b : Bus) (s : State) : (s.withBus b).events = s.events := rfl

@[simp] theorem State.withBus_draws (b : Bus) (s : State) : (s.withBus b).draws = s.draws := rfl

@[simp] theorem State.withBus_withBus (b c : Bus) (s : State) : (s.withBus b).withBus c = s.withBus c := rfl

@[simp] theorem State.withBus_self (s : State) : s.withBus s.bus = s := rfl

@[simp] theorem State.flag_withBus (f : Flag) (b : Bus) (s : State) : (s.withBus b).flag f = s.flag f := rfl

@[simp] theorem State.reg_withBus (q : Reg) (b : Bus) (s : State) : (s.withBus b).reg q = s.reg q := by
  cases q <;> rfl

@[simp] theorem State.withMem_cpu (m : Memory) (s : State) : (s.withMem m).cpu = s.cpu := rfl

@[simp] theorem State.withMem_tia (m : Memory) (s : State) : (s.withMem m).tia = s.tia := rfl

@[simp] theorem State.withMem_mem (m : Memory) (s : State) : (s.withMem m).mem = m := rfl

@[simp] theorem State.withMem_bus (m : Memory) (s : State) : (s.withMem m).bus = s.bus := rfl

@[simp] theorem State.withMem_cfg (m : Memory) (s : State) : (s.withMem m).cfg = s.cfg := rfl

@[simp] theorem State.withMem_schedule (m : Memory) (s : State) : (s.withMem m).schedule = s.schedule := rfl

@[simp] theorem State.withMem_events (m : Memory) (s : State) : (s.withMem m).events = s.events := rfl

@[simp] theorem State.withMem_draws (m : Memory) (s : State) : (s.withMem m).draws = s.draws := rfl

/-- Reading a register after another one is written. -/
theorem State.reg_setReg (r q : Reg) (v : Byte) (s : State) :
    (s.setReg r v).reg q = if q = r then v else s.reg q := by
  cases r <;> cases q <;> rfl

@[simp] theorem State.reg_modifyP (q : Reg) (f : Byte → Byte) (s : State) : (s.modifyP f).reg q = s.reg q := by
  cases q <;> rfl

@[simp] theorem State.reg_setNip (q : Reg) (t : Word) (s : State) : (s.setNip t).reg q = s.reg q := by
  cases q <;> rfl

@[simp] theorem State.flag_setNip (f : Flag) (t : Word) (s : State) : (s.setNip t).flag f = s.flag f := rfl

@[simp] theorem State.flag_setReg (f : Flag) (r : Reg) (v : Byte) (s : State) : (s.setReg r v).flag f = s.flag f := by
  simp [State.flag]

/-- An ALU result touches A and P only. -/
theorem State.putAlu_eq (r : AluResult) (s : State) :
    s.putAlu r = { s with cpu := { s.cpu with
      a := r.value, p := putNZ r.value (putFlag .c r.carry (putFlag .v r.overflow s.cpu.p)) } } := rfl

theorem State.addToA_eq (m : Byte) (s : State) :
    addToA m s = s.putAlu (if s.flag .d then addDecimal s.cfg.decVRule s.cpu.a m (s.flag .c) (s.flag .v)
      else addBinary s.cpu.a m (s.flag .c)) := rfl

/-- What subtraction can do: an add of the complement, or a decimal difference with one free bit drawn for V. -/
theorem State.subFromA_eq (m : Byte) (s : State) :
    subFromA m s = if s.flag .d then
      s.drawBit.2.putAlu ⟨(subDecimal s.cpu.a m (s.flag .c)).1, (subDecimal s.cpu.a m (s.flag .c)).2, Config.freeBit s.draws⟩
    else addToA (m ^^^ 0xFF) s := rfl

@[simp] theorem State.startAt_cfg (o : Option Word) (s : State) : (s.startAt o).cfg = s.cfg := by cases o <;> rfl
@[simp] theorem State.startAt_mem (o : Option Word) (s : State) : (s.startAt o).mem = s.mem := by cases o <;> rfl

@[simp] theorem State.startAt_bus (o : Option Word) (s : State) : (s.startAt o).bus = s.bus := by cases o <;> rfl
@[simp] theorem State.startAt_tia (o : Option Word) (s : State) : (s.startAt o).tia = s.tia := by cases o <;> rfl
@[simp] theorem State.startAt_schedule (o : Option Word) (s : State) : (s.startAt o).schedule = s.schedule := by cases o <;> rfl

end Sys2Proof.Machine
end

