-- ==== Sys2Proof/Laws/Memory.lean ====
section
/-! SUPPORT. The laws of memory: a read after a write, and that every operation keeps the canonical form. -/

namespace Sys2Proof.Machine

/-- A read after a write, at the written address and at every other one. -/
theorem Memory.lookup_write (m : Memory) (addr b : Nat) (v : Byte) :
    (m.write addr v).lookup b = if addr = b then some v else m.lookup b := by
  induction m with
  | nil => simp [Memory.write, Memory.lookup]
  | cons c m ih =>
    obtain ⟨k, w⟩ := c
    rw [Memory.write]
    split
    · rename_i hlt
      by_cases hb : addr = b <;> simp [Memory.lookup, hb]
    · split
      · rename_i heq
        subst heq
        by_cases hb : addr = b <;> simp [Memory.lookup, hb]
      · rename_i hne
        simp only [Memory.lookup, ih]
        by_cases hk : k = b
        · subst hk; simp [hne]
        · simp [hk]

theorem Memory.read_write (m : Memory) (addr b : Nat) (v : Byte) :
    (m.write addr v).read b = if addr = b then v else m.read b := by
  unfold Memory.read
  rw [Memory.lookup_write]
  split <;> simp

@[simp] theorem Memory.read_write_same (m : Memory) (addr : Nat) (v : Byte) : (m.write addr v).read addr = v := by
  simp [Memory.read_write]

theorem Memory.read_write_other (m : Memory) {addr b : Nat} (v : Byte) (h : addr ≠ b) :
    (m.write addr v).read b = m.read b := by
  simp [Memory.read_write, h]

/-- The addresses listed after a write are the old ones and the written one. -/
theorem Memory.mem_write {m : Memory} {addr : Nat} {v : Byte} {c : Host.Cell} (h : c ∈ m.write addr v) :
    c.1 = addr ∨ c ∈ m := by
  induction m with
  | nil => left; simp [Memory.write] at h; simp [h]
  | cons d m ih =>
    obtain ⟨k, w⟩ := d
    rw [Memory.write] at h
    split at h
    · rcases List.mem_cons.mp h with rfl | h
      · exact .inl rfl
      · exact .inr h
    · split at h
      · rcases List.mem_cons.mp h with rfl | h
        · exact .inl rfl
        · exact .inr (List.mem_cons_of_mem _ h)
      · rcases List.mem_cons.mp h with rfl | h
        · exact .inr List.mem_cons_self
        · rcases ih h with h | h
          · exact .inl h
          · exact .inr (List.mem_cons_of_mem _ h)

/-- A write on the bus keeps the canonical form. -/
theorem Memory.write_wf {m : Memory} (h : m.wf) {addr : Nat} (ha : addr < 65536) (v : Byte) : (m.write addr v).wf := by
  refine ⟨?_, fun c hc => ?_⟩
  · obtain ⟨hp, -⟩ := h
    induction m with
    | nil => simp [Memory.write]
    | cons d m ih =>
      obtain ⟨k, w⟩ := d
      rw [List.pairwise_cons] at hp
      rw [Memory.write]
      split
      · rename_i hlt
        refine List.pairwise_cons.mpr ⟨fun c hc => ?_, List.pairwise_cons.mpr hp⟩
        rcases List.mem_cons.mp hc with rfl | hc
        · exact hlt
        · exact Nat.lt_trans hlt (hp.1 c hc)
      · split
        · rename_i heq
          exact List.pairwise_cons.mpr ⟨fun c hc => heq ▸ hp.1 c hc, hp.2⟩
        · rename_i hlt hne
          refine List.pairwise_cons.mpr ⟨fun c hc => ?_, ih hp.2⟩
          rcases Memory.mem_write hc with h | h
          · show k < c.1
            omega
          · exact hp.1 c h
  · rcases Memory.mem_write hc with h' | h'
    · omega
    · exact h.2 c h'

/-- The memory of the reset state is in canonical form. -/
theorem Memory.reset_wf : State.reset.mem.wf := ⟨List.Pairwise.nil, fun _ h => nomatch h⟩

/-- Two memories that list the same bytes answer the same; the canonical form makes them the same list. -/
theorem Memory.ext_of_lookup {m n : Memory} (hm : m.wf) (hn : n.wf) (h : ∀ a, m.lookup a = n.lookup a) : m = n := by
  have key : ∀ (m : Memory) (a : Nat), (∀ c ∈ m, a < c.1) → m.lookup a = none := by
    intro m a hc
    induction m with
    | nil => rfl
    | cons c m ih =>
      obtain ⟨k, w⟩ := c
      have := hc (k, w) List.mem_cons_self
      simp only [Memory.lookup]
      rw [if_neg (by simp at this; omega), ih fun c h => hc c (List.mem_cons_of_mem _ h)]
  obtain ⟨hm, -⟩ := hm
  obtain ⟨hn, -⟩ := hn
  induction m generalizing n with
  | nil =>
    cases n with
    | nil => rfl
    | cons c n => have := h c.1; simp [Memory.lookup] at this
  | cons c m ih =>
    obtain ⟨k, w⟩ := c
    rw [List.pairwise_cons] at hm
    cases n with
    | nil => have := h k; simp [Memory.lookup] at this
    | cons d n =>
      obtain ⟨l, x⟩ := d
      rw [List.pairwise_cons] at hn
      have hkl : k = l := by
        rcases Nat.lt_trichotomy k l with hlt | heq | hgt
        · have h1 := h k
          rw [key ((l, x) :: n) k (by
            intro c hc
            rcases List.mem_cons.mp hc with rfl | hc
            · exact hlt
            · exact Nat.lt_trans hlt (hn.1 c hc))] at h1
          simp [Memory.lookup] at h1
        · exact heq
        · have h1 := h l
          rw [key ((k, w) :: m) l (by
            intro c hc
            rcases List.mem_cons.mp hc with rfl | hc
            · exact hgt
            · exact Nat.lt_trans hgt (hm.1 c hc))] at h1
          simp [Memory.lookup] at h1
      subst hkl
      have hwx : w = x := by have := h k; simpa [Memory.lookup] using this
      subst hwx
      rw [ih (n := n) (fun a => ?_) hm.2 hn.2]
      have := h a
      simp only [Memory.lookup] at this
      by_cases hk : k = a
      · subst hk
        rw [key m k hm.1, key n k hn.1]
      · simpa [hk] using this

end Sys2Proof.Machine
end

