-- ==== Sys2Proof/Laws/Bus.lean ====
section
/-! SUPPORT. What each bus, stack and operand operation can do, said once: when it answers, with what, what it leaves alone, and which access it names
when it is refused; and that what a state holds beside the CPU and the bus has no part in it. -/

namespace Sys2Proof.Machine

/-! ## Sequences -/

/-- From a computation that answered, its first step answered and the rest did too. -/
theorem bind_ok {α β : Type} {x : Except Fault α} {k : α → Except Fault β} {b : β} :
    (x >>= k) = .ok b ↔ ∃ a, x = .ok a ∧ k a = .ok b := by
  cases x with
  | error e => simp [bind, Except.bind]
  | ok a => simp [bind, Except.bind]

/-- From a computation that was refused, its first step was, or the rest. -/
theorem bind_error {α β : Type} {x : Except Fault α} {k : α → Except Fault β} {f : Fault} :
    (x >>= k) = .error f ↔ x = .error f ∨ ∃ a, x = .ok a ∧ k a = .error f := by
  cases x with
  | error e => simp [bind, Except.bind]
  | ok a => simp [bind, Except.bind]

/-! ## One access -/

/-- An access the script accepts: the answer is used up, the access is on record, and nothing else changes. -/
theorem askScript_ok {a : Access} {s u : State} {v : Byte} :
    askScript a s = .ok (v, u) ↔ backs s.cfg.manager.scripted a.addr = true ∧
      ∃ rest, s.bus.script = .accepts v :: rest ∧ u = s.withBus ⟨rest, a :: s.bus.asked⟩ := by
  unfold askScript
  split
  · rename_i h
    split
    · rename_i w rest hs
      simp only [Except.ok.injEq, Prod.mk.injEq, h, hs, true_and, List.cons.injEq, Answer.accepts.injEq]
      constructor
      · rintro ⟨rfl, rfl⟩
        exact ⟨rest, ⟨rfl, rfl⟩, rfl⟩
      · rintro ⟨_, ⟨rfl, rfl⟩, rfl⟩
        exact ⟨rfl, rfl⟩
    · rename_i hs
      simp [hs]
    · rename_i hs
      simp [hs]
  · rename_i h
    simp [h]

/-- An access the script does not accept: its address is not scripted, or the next answer is a refusal or there is none. -/
theorem askScript_error {a : Access} {s : State} {f : Fault} :
    askScript a s = .error f ↔ f = .busFault a.addr ∧
      (backs s.cfg.manager.scripted a.addr = false ∨ ∀ v rest, s.bus.script ≠ .accepts v :: rest) := by
  unfold askScript
  split
  · rename_i h
    split
    · rename_i w rest hs
      simp [h, hs]
    · rename_i hs
      simp [hs, eq_comm (b := f)]
    · rename_i hs
      simp [hs, eq_comm (b := f)]
  · rename_i h
    simp [h, eq_comm (b := f)]

/-- A read that is answered: from storage, changing nothing, or by the script. -/
theorem busRead_ok {a : Word} {s u : State} {v : Byte} :
    busRead a s = .ok (v, u) ↔
      backs s.cfg.manager.readable a = true ∧ v = s.mem.read a.toNat ∧ u = s ∨
      backs s.cfg.manager.readable a = false ∧ askScript (.read a) s = .ok (v, u) := by
  unfold busRead
  split
  · rename_i h
    simp [h, eq_comm]
  · rename_i h
    simp [h]

theorem busRead_error {a : Word} {s : State} {f : Fault} :
    busRead a s = .error f ↔ backs s.cfg.manager.readable a = false ∧ askScript (.read a) s = .error f := by
  unfold busRead
  split
  · rename_i h
    simp [h]
  · rename_i h
    simp [h]

/-- A write that is answered: to storage, or by the script. -/
theorem busWrite_ok {a : Word} {v : Byte} {s u : State} :
    busWrite a v s = .ok u ↔
      backs s.cfg.manager.writable a = true ∧ u = s.withMem (s.mem.write a.toNat v) ∨
      backs s.cfg.manager.writable a = false ∧ ∃ w, askScript (.write a v) s = .ok (w, u) := by
  unfold busWrite
  split
  · rename_i h
    simp [h, eq_comm]
  · rename_i h
    cases askScript (.write a v) s with
    | ok p => simp [h, Except.map, Prod.ext_iff]
    | error f => simp [h, Except.map]

theorem busWrite_error {a : Word} {v : Byte} {s : State} {f : Fault} :
    busWrite a v s = .error f ↔ backs s.cfg.manager.writable a = false ∧ askScript (.write a v) s = .error f := by
  unfold busWrite
  split
  · rename_i h
    simp [h]
  · rename_i h
    cases askScript (.write a v) s with
    | ok p => simp [Except.map]
    | error e => simp [h, Except.map]

theorem busRead_stored {a : Word} {s : State} (h : backs s.cfg.manager.readable a = true) :
    busRead a s = .ok (s.mem.read a.toNat, s) := busRead_ok.mpr (.inl ⟨h, rfl, rfl⟩)

theorem busWrite_stored {a : Word} {s : State} (v : Byte) (h : backs s.cfg.manager.writable a = true) :
    busWrite a v s = .ok (s.withMem (s.mem.write a.toNat v)) := busWrite_ok.mpr (.inl ⟨h, rfl⟩)

/-- What a read can change: the script and its record. -/
theorem busRead_frame {a : Word} {s u : State} {v : Byte} (h : busRead a s = .ok (v, u)) : u = s.withBus u.bus := by
  rcases busRead_ok.mp h with ⟨-, -, rfl⟩ | ⟨-, h⟩
  · rfl
  · obtain ⟨-, rest, -, rfl⟩ := askScript_ok.mp h
    rfl

/-- What a write can change: its byte of storage, or the script and its record. -/
theorem busWrite_frame {a : Word} {v : Byte} {s u : State} (h : busWrite a v s = .ok u) :
    u = s.withMem (s.mem.write a.toNat v) ∨ u = s.withBus u.bus := by
  rcases busWrite_ok.mp h with ⟨-, rfl⟩ | ⟨-, w, h⟩
  · exact .inl rfl
  · obtain ⟨-, rest, -, rfl⟩ := askScript_ok.mp h
    exact .inr rfl

/-- The refused address is the one read, and storage does not answer it. -/
theorem busRead_names {a : Word} {s : State} {f : Fault} (h : busRead a s = .error f) :
    f = .busFault a ∧ backs s.cfg.manager.readable a = false :=
  ⟨(askScript_error.mp (busRead_error.mp h).2).1, (busRead_error.mp h).1⟩

/-- The refused address is the one written, and storage does not take it. -/
theorem busWrite_names {a : Word} {v : Byte} {s : State} {f : Fault} (h : busWrite a v s = .error f) :
    f = .busFault a ∧ backs s.cfg.manager.writable a = false :=
  ⟨(askScript_error.mp (busWrite_error.mp h).2).1, (busWrite_error.mp h).1⟩

/-- Reading storage after storage was written. -/
theorem busRead_after_busWrite {a b : Word} {v : Byte} {s t : State} (hw : backs s.cfg.manager.writable a = true)
    (hr : backs s.cfg.manager.readable b = true) (h : busWrite a v s = .ok t) :
    busRead b t = .ok (if a = b then v else s.mem.read b.toNat, t) := by
  rw [busWrite_stored v hw] at h
  cases h
  rw [busRead_stored (by exact hr)]
  by_cases hab : a = b
  · subst hab
    simp
  · have hn : a.toNat ≠ b.toNat := fun h => hab (BitVec.eq_of_toNat_eq h)
    simp [hab, Memory.read_write_other _ _ hn]

/-! ## Pairs, operands -/

theorem readPair_ok {lo hi : Word} {s u : State} {w : Word} :
    readPair lo hi s = .ok (w, u) ↔
      ∃ l h t, busRead lo s = .ok (l, t) ∧ busRead hi t = .ok (h, u) ∧ w = wordOf l h := by
  constructor
  · intro h
    obtain ⟨⟨l, t⟩, hl, h⟩ := bind_ok.mp h
    obtain ⟨⟨x, u'⟩, hx, h⟩ := bind_ok.mp h
    cases h
    exact ⟨l, x, t, hl, hx, rfl⟩
  · rintro ⟨l, h, t, hl, hh, rfl⟩
    exact bind_ok.mpr ⟨_, hl, bind_ok.mpr ⟨_, hh, rfl⟩⟩

theorem readPair_frame {lo hi : Word} {s u : State} {w : Word} (h : readPair lo hi s = .ok (w, u)) : u = s.withBus u.bus := by
  obtain ⟨l, x, t, hl, hh, -⟩ := readPair_ok.mp h
  have ht := busRead_frame hl
  have hu := busRead_frame hh
  rw [hu, ht, State.withBus_withBus, State.withBus_bus]

/-- What working out an address can change: the script and its record. -/
theorem MemOperand.address_frame {m : MemOperand} {s u : State} {r : Word × Bool} (h : m.address s = .ok (r, u)) :
    u = s.withBus u.bus := by
  cases m with
  | zp | zpx | zpy | abs | abx | aby => cases h; rfl
  | izx b | izy b =>
    obtain ⟨⟨w, t⟩, hw, h⟩ := bind_ok.mp h
    cases h
    exact readPair_frame hw

/-- Reading a memory operand: its address, then the byte there. -/
theorem ReadOperand.read_mem_ok {m : MemOperand} {s u : State} {v : Byte} {extra : Nat} :
    (ReadOperand.mem m).read s = .ok ((v, extra), u) ↔
      ∃ ea crossed t, m.address s = .ok ((ea, crossed), t) ∧ busRead ea t = .ok (v, u) ∧ extra = crossed.toNat := by
  constructor
  · intro h
    obtain ⟨⟨⟨ea, crossed⟩, t⟩, ha, h⟩ := bind_ok.mp h
    obtain ⟨⟨v', u'⟩, hr, h⟩ := bind_ok.mp h
    cases h
    exact ⟨ea, crossed, t, ha, hr, rfl⟩
  · rintro ⟨ea, crossed, t, ha, hr, rfl⟩
    exact bind_ok.mpr ⟨_, ha, bind_ok.mpr ⟨_, hr, rfl⟩⟩

/-- What reading an operand can change: the script and its record. -/
theorem ReadOperand.read_frame {o : ReadOperand} {s u : State} {r : Byte × Nat} (h : o.read s = .ok (r, u)) :
    u = s.withBus u.bus := by
  cases o with
  | imm v => cases h; rfl
  | mem m =>
    obtain ⟨v, extra⟩ := r
    obtain ⟨ea, crossed, t, ha, hr, -⟩ := ReadOperand.read_mem_ok.mp h
    rw [busRead_frame hr, MemOperand.address_frame ha, State.withBus_withBus, State.withBus_bus]

theorem indirectTarget_frame {w target : Word} {s u : State} (h : indirectTarget w s = .ok (target, u)) :
    u = s.withBus u.bus := readPair_frame h

/-! ## The stack -/

/-- A push: the write, then SP one lower. -/
theorem push_ok {v : Byte} {s t : State} :
    push v s = .ok t ↔ ∃ u, busWrite (stackAddr s) v s = .ok u ∧ t = u.setReg .sp (u.cpu.sp - 1) := by
  unfold push
  simp only [bind_ok, Except.ok.injEq, eq_comm (b := t)]

theorem push_error {v : Byte} {s : State} {f : Fault} :
    push v s = .error f ↔ busWrite (stackAddr s) v s = .error f := by
  unfold push
  simp [bind_error]

/-- The address the next pull reads. -/
def pullAddr (s : State) : Word := wordOf (s.cpu.sp + 1) s.cfg.stackPage

theorem pullWord_ok {w : Word} {s t : State} :
    pullWord s = .ok (w, t) ↔
      ∃ lo hi u, pull s = .ok (lo, u) ∧ pull u = .ok (hi, t) ∧ w = wordOf lo hi := by
  constructor
  · intro h
    obtain ⟨⟨lo, u⟩, h1, h⟩ := bind_ok.mp h
    obtain ⟨⟨hi, t'⟩, h2, h⟩ := bind_ok.mp h
    cases h
    exact ⟨lo, hi, u, h1, h2, rfl⟩
  · rintro ⟨lo, hi, u, h1, h2, rfl⟩
    exact bind_ok.mpr ⟨_, h1, bind_ok.mpr ⟨_, h2, rfl⟩⟩

/-! ## What has no part in an access -/

/-- A change of state that no access notices: it leaves storage, the script and the configuration as they are, and it can be made before or after a change of
those. -/
structure OffBus (g : State → State) : Prop where
  mem (s : State) : (g s).mem = s.mem
  bus (s : State) : (g s).bus = s.bus
  cfg (s : State) : (g s).cfg = s.cfg
  withMem (m : Memory) (s : State) : (g s).withMem m = g (s.withMem m)
  withBus (b : Bus) (s : State) : (g s).withBus b = g (s.withBus b)

/-- A change that no address, operand, push or pull notices either: it leaves the registers, P and IP as they are, and can be made before or after a change of
those. -/
structure Unseen (g : State → State) : Prop extends OffBus g where
  reg (r : Reg) (s : State) : (g s).reg r = s.reg r
  p (s : State) : (g s).cpu.p = s.cpu.p
  ip (s : State) : (g s).cpu.ip = s.cpu.ip
  setReg (r : Reg) (v : Byte) (s : State) : (g s).setReg r v = g (s.setReg r v)
  modifyP (f : Byte → Byte) (s : State) : (g s).modifyP f = g (s.modifyP f)

/-- An answer with its state changed. -/
def thenState {α : Type} (g : State → State) : Except Fault (α × State) → Except Fault (α × State)
  | .ok (a, s) => .ok (a, g s)
  | .error f => .error f

namespace OffBus
variable {g : State → State} (hg : OffBus g)
include hg

theorem askScript (a : Access) (s : State) : Machine.askScript a (g s) = thenState g (Machine.askScript a s) := by
  unfold Machine.askScript
  rw [hg.cfg, hg.bus]
  split
  · split
    · rw [hg.withBus]
      rfl
    · rfl
    · rfl
  · rfl

theorem busRead (a : Word) (s : State) : Machine.busRead a (g s) = thenState g (Machine.busRead a s) := by
  unfold Machine.busRead
  rw [hg.cfg, hg.mem, hg.askScript]
  split <;> rfl

theorem busWrite (a : Word) (v : Byte) (s : State) : Machine.busWrite a v (g s) = (Machine.busWrite a v s).map g := by
  unfold Machine.busWrite
  rw [hg.cfg, hg.mem, hg.askScript]
  split
  · rw [hg.withMem]
    rfl
  · cases Machine.askScript (.write a v) s <;> rfl

end OffBus

/-- No access notices a register. -/
theorem OffBus.setReg (r : Reg) (v : Byte) : OffBus (State.setReg r v) where
  mem s := by cases r <;> rfl
  bus s := by cases r <;> rfl
  cfg s := by cases r <;> rfl
  withMem m s := by cases r <;> rfl
  withBus b s := by cases r <;> rfl

/-- No access notices the status byte. -/
theorem OffBus.modifyP (f : Byte → Byte) : OffBus (State.modifyP f) where
  mem _ := rfl
  bus _ := rfl
  cfg _ := rfl
  withMem _ _ := rfl
  withBus _ _ := rfl

/-- A pull reads the byte above SP, and leaves SP there. -/
theorem pull_eq_read (s : State) : pull s = thenState (State.setReg .sp (s.cpu.sp + 1)) (busRead (pullAddr s) s) :=
  (OffBus.setReg _ _).busRead _ s

namespace Unseen
variable {g : State → State} (hg : Unseen g)
include hg

theorem flag (f : Flag) (s : State) : (g s).flag f = s.flag f := by
  unfold State.flag
  rw [hg.p]

theorem x (s : State) : (g s).cpu.x = s.cpu.x := hg.reg .x s

theorem y (s : State) : (g s).cpu.y = s.cpu.y := hg.reg .y s

theorem sp (s : State) : (g s).cpu.sp = s.cpu.sp := hg.reg .sp s

theorem readPair (lo hi : Word) (s : State) : Machine.readPair lo hi (g s) = thenState g (Machine.readPair lo hi s) := by
  unfold Machine.readPair
  simp only [hg.busRead, bind]
  cases Machine.busRead lo s with
  | error e => rfl
  | ok p =>
    simp only [thenState, Except.bind, hg.busRead]
    cases Machine.busRead hi p.2 <;> rfl

theorem address (m : MemOperand) (s : State) : m.address (g s) = thenState g (m.address s) := by
  cases m with
  | zp | abs => rfl
  | zpx | zpy | abx | aby => simp only [MemOperand.address, hg.x, hg.y, hg.cfg, thenState]
  | izx b | izy b =>
    simp only [MemOperand.address, hg.x, hg.cfg, hg.readPair, bind]
    cases Machine.readPair _ _ s with
    | error e => rfl
    | ok p => simp only [thenState, Except.bind, hg.y]

theorem read (o : ReadOperand) (s : State) : o.read (g s) = thenState g (o.read s) := by
  cases o with
  | imm v => rfl
  | mem m =>
    simp only [ReadOperand.read, hg.address, bind]
    cases m.address s with
    | error e => rfl
    | ok p =>
      simp only [thenState, Except.bind, hg.busRead]
      cases Machine.busRead p.1.1 p.2 <;> rfl

theorem indirectTarget (w : Word) (s : State) : Machine.indirectTarget w (g s) = thenState g (Machine.indirectTarget w s) := by
  unfold Machine.indirectTarget
  rw [hg.readPair, hg.cfg]

theorem stackAddr (s : State) : Machine.stackAddr (g s) = Machine.stackAddr s := by
  unfold Machine.stackAddr
  rw [hg.sp, hg.cfg]

theorem push (v : Byte) (s : State) : Machine.push v (g s) = (Machine.push v s).map g := by
  unfold Machine.push
  simp only [hg.stackAddr, hg.busWrite, bind]
  cases Machine.busWrite (Machine.stackAddr s) v s with
  | error e => rfl
  | ok u => simp only [Except.map, Except.bind, hg.sp, hg.setReg]

theorem pull (s : State) : Machine.pull (g s) = thenState g (Machine.pull s) := by
  simp only [Machine.pull, hg.sp, hg.setReg, hg.stackAddr, hg.busRead]

theorem pullWord (s : State) : Machine.pullWord (g s) = thenState g (Machine.pullWord s) := by
  unfold Machine.pullWord
  simp only [hg.pull, bind]
  cases Machine.pull s with
  | error e => rfl
  | ok p =>
    simp only [thenState, Except.bind, hg.pull]
    cases Machine.pull p.2 <;> rfl

theorem returnAddr (s : State) : Machine.returnAddr (g s) = Machine.returnAddr s := by
  unfold Machine.returnAddr
  rw [hg.ip]

end Unseen

/-- No access notices NIP. -/
theorem Unseen.setNip (t : Word) : Unseen (State.setNip t) where
  reg r s := by cases r <;> rfl
  p _ := rfl
  ip _ := rfl
  mem _ := rfl
  bus _ := rfl
  cfg _ := rfl
  withMem _ _ := rfl
  withBus _ _ := rfl
  setReg r v s := by cases r <;> rfl
  modifyP _ _ := rfl

@[simp] theorem branchBase_setNip (t : Word) (s : State) : branchBase (s.setNip t) = branchBase s := rfl
@[simp] theorem branchTarget_setNip (d : Byte) (t : Word) (s : State) : branchTarget d (s.setNip t) = branchTarget d s := rfl

/-! ## One instruction -/

/-- What an instruction can answer: the next state of its effect, or the access its effect was refused. -/
theorem runInstr_next {size cycles : Nat} {e : Effect} {s t : State} :
    runInstr size cycles e s = .next t ↔
      ∃ u extra, e (s.setNip (s.cpu.ip + BitVec.ofNat 16 size)) = .ok (u, extra) ∧ t = u.commit (cycles + extra) := by
  unfold runInstr
  split
  · rename_i u extra h
    constructor
    · intro ht
      injection ht with ht
      exact ⟨u, extra, h, ht.symm⟩
    · rintro ⟨u', extra', h', rfl⟩
      rw [h] at h'
      injection h' with h'
      injection h' with h1 h2
      rw [h1, h2]
  · rename_i f h
    constructor
    · intro ht
      injection ht
    · rintro ⟨u', extra', h', -⟩
      rw [h] at h'
      injection h'

theorem runInstr_fault {size cycles : Nat} {e : Effect} {s : State} {f : Fault} :
    runInstr size cycles e s = .fault f ↔ e (s.setNip (s.cpu.ip + BitVec.ofNat 16 size)) = .error f := by
  unfold runInstr
  split <;> simp_all

theorem runInstr_not_refused {size cycles : Nat} {e : Effect} {s : State} {r : Refusal} :
    runInstr size cycles e s ≠ .refused r := by
  unfold runInstr
  split <;> simp

end Sys2Proof.Machine
end

