-- ==== Sys2Proof/Laws/Flags.lean ====
section
/-! SUPPORT. The laws of the status byte: a flag read after a flag written, and what each flag computation leaves alone. -/

namespace Sys2Proof.Machine

/-- A flag after one flag is written. -/
theorem getFlag_putFlag (f g : Flag) (v : Bool) (p : Byte) :
    getFlag f (putFlag g v p) = if f = g then v else getFlag f p := by
  unfold getFlag putFlag
  cases v <;> cases f <;> cases g <;> simp [Flag.bit]

@[simp] theorem getFlag_putFlag_same (f : Flag) (v : Bool) (p : Byte) : getFlag f (putFlag f v p) = v := by
  simp [getFlag_putFlag]

/-- Two status bytes with the same flags are the same byte. -/
theorem status_ext {p q : Byte} (h : ∀ f, getFlag f p = getFlag f q) : p = q := by
  refine BitVec.eq_of_getLsbD_eq fun i hi => ?_
  have h0 := h .c
  have h1 := h .z
  have h2 := h .i
  have h3 := h .d
  have h4 := h .b
  have h5 := h .u
  have h6 := h .v
  have h7 := h .n
  simp only [getFlag, Flag.bit] at h0 h1 h2 h3 h4 h5 h6 h7
  obtain rfl | rfl | rfl | rfl | rfl | rfl | rfl | rfl :
      i = 0 ∨ i = 1 ∨ i = 2 ∨ i = 3 ∨ i = 4 ∨ i = 5 ∨ i = 6 ∨ i = 7 := by omega
  all_goals assumption

/-- `setNZ` writes N and Z from the byte and no other flag. -/
theorem getFlag_putNZ (f : Flag) (v p : Byte) :
    getFlag f (putNZ v p) = if f = .n then v.msb else if f = .z then v == 0 else getFlag f p := by
  simp only [putNZ, getFlag_putFlag]

/-- A compare writes N, Z and C. -/
theorem getFlag_putCompare (f : Flag) (r m p : Byte) :
    getFlag f (putCompare r m p) =
      if f = .n then (r - m).msb else if f = .z then r == m
      else if f = .c then decide (m.toNat ≤ r.toNat) else getFlag f p := by
  simp only [putCompare, getFlag_putFlag]

/-- BIT writes V, N and Z. -/
theorem getFlag_putBit (f : Flag) (a m p : Byte) :
    getFlag f (putBit a m p) =
      if f = .v then m.getLsbD 6 else if f = .n then m.getLsbD 7
      else if f = .z then a &&& m == 0 else getFlag f p := by
  simp only [putBit, getFlag_putFlag]

/-- The bit a modifying instruction shifts into C, or the old C. -/
def ModifyOp.carry (op : ModifyOp) (v p : Byte) : Bool :=
  match op with
  | .inc | .dec => getFlag .c p
  | .asl | .rol => v.getLsbD 7
  | .lsr | .ror => v.getLsbD 0

/-- A modifying instruction writes N, Z and, when it shifts, C. -/
theorem getFlag_modify (op : ModifyOp) (f : Flag) (v p : Byte) :
    getFlag f (op.status v p) =
      if f = .n then (op.result v (getFlag .c p)).msb
      else if f = .z then op.result v (getFlag .c p) == 0
      else if f = .c then op.carry v p else getFlag f p := by
  cases op <;> simp only [ModifyOp.status, ModifyOp.carry, getFlag_putNZ, getFlag_putFlag] <;>
    cases f <;> simp

/-- The sign bit of a byte is set from 128 up. -/
theorem msb_eq_decide (v : Byte) : v.msb = decide (128 ≤ v.toNat) := by
  simp [BitVec.msb_eq_decide]

/-- A byte is zero when its number is. -/
theorem beq_zero_eq_decide (v : Byte) : (v == 0) = decide (v.toNat = 0) := by
  rw [Bool.eq_iff_iff]
  simp [← BitVec.toNat_inj]

end Sys2Proof.Machine
end

