-- ==== Sys2Proof/Laws/Forms.lean ====
section
/-! SUPPORT. The 256 meanings seen as some twenty shapes, so that a proof about every instruction is a proof about each shape: `exec_eq_form` turns
`exec i s` into one instruction frame around the effect of the shape, and `Form.frame` says once what every effect leaves alone. -/

namespace Sys2Proof.Machine

/-- The shapes of instructions, one for each shared operation. -/
inductive Form where
  | load (r : Reg) (cycles : Nat) (o : ReadOperand)
  | store (r : Reg) (cycles : Nat) (m : MemOperand)
  | transfer (src dst : Reg) (cycles : Nat)
  | transferToSp (cycles : Nat)
  | arith (sub : Bool) (cycles : Nat) (o : ReadOperand)
  | compareReg (r : Reg) (cycles : Nat) (o : ReadOperand)
  | countReg (r : Reg) (k : Byte) (cycles : Nat)
  | modifyMem (op : ModifyOp) (cycles : Nat) (m : MemOperand)
  | modifyAcc (op : ModifyOp) (cycles : Nat)
  | logic (op : Byte → Byte → Byte) (cycles : Nat) (o : ReadOperand)
  | bitTest (cycles : Nat) (o : ReadOperand)
  | nop (cycles : Nat)
  | jump (cycles : Nat) (w : Word)
  | jumpIndirect (cycles : Nat) (w : Word)
  | call (cycles : Nat) (w : Word)
  | returnSub (cycles : Nat)
  | returnInt (cycles : Nat)
  | breakMark (cycles : Nat)
  | branch (f : Flag) (want : Bool) (cycles : Nat) (disp : Byte)
  | pushByte (cycles : Nat) (v : State → Byte)
  | pullA (cycles : Nat)
  | pullP (cycles : Nat)
  | writeFlag (f : Flag) (v : Bool) (cycles : Nat)
  | unassigned (op : Byte)

/-- The encoded size of a shape. -/
def Form.size : Form → Nat
  | .load _ _ o | .arith _ _ o | .compareReg _ _ o | .logic _ _ o | .bitTest _ o => o.size
  | .store _ _ m | .modifyMem _ _ m => m.size
  | .jump _ _ | .jumpIndirect _ _ | .call _ _ => 3
  | .branch _ _ _ _ => 2
  | .transfer _ _ _ | .transferToSp _ | .countReg _ _ _ | .modifyAcc _ _ | .nop _ | .returnSub _ | .returnInt _
  | .breakMark _ | .pushByte _ _ | .pullA _ | .pullP _ | .writeFlag _ _ _ | .unassigned _ => 1

/-- The base cycles of a shape. -/
def Form.cycles (s : State) : Form → Nat
  | .load _ c _ | .store _ c _ | .transfer _ _ c | .transferToSp c | .arith _ c _ | .compareReg _ c _ | .countReg _ _ c
  | .modifyMem _ c _ | .modifyAcc _ c | .logic _ c _ | .bitTest c _ | .nop c | .jump c _ | .jumpIndirect c _
  | .call c _ | .returnSub c | .returnInt c | .breakMark c | .branch _ _ c _ | .pushByte c _ | .pullA c | .pullP c
  | .writeFlag _ _ c => c
  | .unassigned _ => s.cfg.unassignedCycles

/-- The effect of a shape. -/
def Form.effect : Form → Effect
  | .load r _ o => fun s => do
    let ((m, extra), s) ← o.read s
    .ok ((s.setReg r m).setNZ m, extra)
  | .store r _ m => fun s => do
    let ((ea, _), s) ← m.address s
    let s ← busWrite ea (s.reg r) s
    .ok (s, 0)
  | .transfer src dst _ => Effect.pure fun s => (s.setReg dst (s.reg src)).setNZ (s.reg src)
  | .transferToSp _ => Effect.pure fun s =>
    if s.cfg.txsSetsNZ then (s.setReg .sp s.cpu.x).setNZ s.cpu.x else s.setReg .sp s.cpu.x
  | .arith sub _ o => fun s => do
    let ((m, extra), s) ← o.read s
    .ok ((match sub with | true => subFromA m s | false => addToA m s), extra)
  | .compareReg r _ o => fun s => do
    let ((m, extra), s) ← o.read s
    .ok (s.modifyP (putCompare (s.reg r) m), extra)
  | .countReg r k _ => Effect.pure fun s => (s.setReg r (s.reg r + k)).setNZ (s.reg r + k)
  | .modifyMem op _ m => fun s => do
    let ((ea, _), s) ← m.address s
    let (v, s) ← busRead ea s
    let s ← busWrite ea (op.result v (s.flag .c)) s
    .ok (s.modifyP (op.status v), 0)
  | .modifyAcc op _ => Effect.pure fun s =>
    (s.setReg .a (op.result s.cpu.a (s.flag .c))).modifyP (op.status s.cpu.a)
  | .logic op _ o => fun s => do
    let ((m, extra), s) ← o.read s
    .ok ((s.setReg .a (op s.cpu.a m)).setNZ (op s.cpu.a m), extra)
  | .bitTest _ o => fun s => do
    let ((m, extra), s) ← o.read s
    .ok (s.modifyP (putBit s.cpu.a m), extra)
  | .nop _ => Effect.pure id
  | .jump _ w => Effect.pure fun s => s.setNip w
  | .jumpIndirect _ w => fun s => do
    let (target, s) ← indirectTarget w s
    .ok (s.setNip target, 0)
  | .call _ w => fun s => do
    let t ← push (highByte (returnAddr s)) s
    let t ← push (lowByte (returnAddr s)) t
    .ok (t.setNip w, 0)
  | .returnSub _ => fun s => do
    let (w, s) ← pullWord s
    .ok (s.setNip (w + 1), 0)
  | .returnInt _ => fun s => do
    let (p, s) ← pull s
    let (w, s) ← pullWord (s.modifyP fun _ => p)
    .ok (s.setNip w, 0)
  | .breakMark _ => Effect.pure (State.setFlag .b true)
  | .branch f want _ disp => fun s =>
    if s.flag f = want then
      let target := branchTarget disp s
      .ok (s.setNip target, if highByte target = highByte (branchBase s) then 1 else 2)
    else .ok (s, 0)
  | .pushByte _ v => fun s => do
    let t ← push (v s) s
    .ok (t, 0)
  | .pullA _ => fun s => do
    let (v, s) ← pull s
    .ok ((s.setReg .a v).setNZ v, 0)
  | .pullP _ => fun s => do
    let (v, s) ← pull s
    .ok (s.modifyP fun _ => v, 0)
  | .writeFlag f v _ => Effect.pure (State.setFlag f v)
  | .unassigned op => Effect.pure (State.emit (.diagnostic op))

/-- The shape of an instruction. -/
def Form.of : Instr → Form
  | .brk => .breakMark 7
  | .oraIzx b => .logic (· ||| ·) 6 (.mem (.izx b))
  | .fx02 => .unassigned 0x02
  | .fx03 => .unassigned 0x03
  | .fx04 => .unassigned 0x04
  | .oraZp b => .logic (· ||| ·) 3 (.mem (.zp b))
  | .aslZp b => .modifyMem .asl 5 (.zp b)
  | .fx07 => .unassigned 0x07
  | .php => .pushByte 3 (fun t => t.cpu.p)
  | .oraImm b => .logic (· ||| ·) 2 (.imm b)
  | .aslAcc => .modifyAcc .asl 2
  | .fx0B => .unassigned 0x0B
  | .fx0C => .unassigned 0x0C
  | .oraAbs w => .logic (· ||| ·) 4 (.mem (.abs w))
  | .aslAbs w => .modifyMem .asl 6 (.abs w)
  | .fx0F => .unassigned 0x0F
  | .bpl disp => .branch .n false 2 disp
  | .oraIzy b => .logic (· ||| ·) 5 (.mem (.izy b))
  | .fx12 => .unassigned 0x12
  | .fx13 => .unassigned 0x13
  | .fx14 => .unassigned 0x14
  | .oraZpx b => .logic (· ||| ·) 4 (.mem (.zpx b))
  | .aslZpx b => .modifyMem .asl 6 (.zpx b)
  | .fx17 => .unassigned 0x17
  | .clc => .writeFlag .c false 2
  | .oraAby w => .logic (· ||| ·) 4 (.mem (.aby w))
  | .fx1A => .unassigned 0x1A
  | .fx1B => .unassigned 0x1B
  | .fx1C => .unassigned 0x1C
  | .oraAbx w => .logic (· ||| ·) 4 (.mem (.abx w))
  | .aslAbx w => .modifyMem .asl 7 (.abx w)
  | .fx1F => .unassigned 0x1F
  | .jsr w => .call 6 w
  | .andIzx b => .logic (· &&& ·) 6 (.mem (.izx b))
  | .fx22 => .unassigned 0x22
  | .fx23 => .unassigned 0x23
  | .bitZp b => .bitTest 3 (.mem (.zp b))
  | .andZp b => .logic (· &&& ·) 3 (.mem (.zp b))
  | .rolZp b => .modifyMem .rol 5 (.zp b)
  | .fx27 => .unassigned 0x27
  | .plp => .pullP 4
  | .andImm b => .logic (· &&& ·) 2 (.imm b)
  | .rolAcc => .modifyAcc .rol 2
  | .fx2B => .unassigned 0x2B
  | .bitAbs w => .bitTest 4 (.mem (.abs w))
  | .andAbs w => .logic (· &&& ·) 4 (.mem (.abs w))
  | .rolAbs w => .modifyMem .rol 6 (.abs w)
  | .fx2F => .unassigned 0x2F
  | .bmi disp => .branch .n true 2 disp
  | .andIzy b => .logic (· &&& ·) 5 (.mem (.izy b))
  | .fx32 => .unassigned 0x32
  | .fx33 => .unassigned 0x33
  | .fx34 => .unassigned 0x34
  | .andZpx b => .logic (· &&& ·) 4 (.mem (.zpx b))
  | .rolZpx b => .modifyMem .rol 6 (.zpx b)
  | .fx37 => .unassigned 0x37
  | .sec => .writeFlag .c true 2
  | .andAby w => .logic (· &&& ·) 4 (.mem (.aby w))
  | .fx3A => .unassigned 0x3A
  | .fx3B => .unassigned 0x3B
  | .fx3C => .unassigned 0x3C
  | .andAbx w => .logic (· &&& ·) 4 (.mem (.abx w))
  | .rolAbx w => .modifyMem .rol 7 (.abx w)
  | .fx3F => .unassigned 0x3F
  | .rti => .returnInt 6
  | .eorIzx b => .logic (· ^^^ ·) 6 (.mem (.izx b))
  | .fx42 => .unassigned 0x42
  | .fx43 => .unassigned 0x43
  | .fx44 => .unassigned 0x44
  | .eorZp b => .logic (· ^^^ ·) 3 (.mem (.zp b))
  | .lsrZp b => .modifyMem .lsr 5 (.zp b)
  | .fx47 => .unassigned 0x47
  | .pha => .pushByte 3 (fun t => t.cpu.a)
  | .eorImm b => .logic (· ^^^ ·) 2 (.imm b)
  | .lsrAcc => .modifyAcc .lsr 2
  | .fx4B => .unassigned 0x4B
  | .jmpAbs w => .jump 3 w
  | .eorAbs w => .logic (· ^^^ ·) 4 (.mem (.abs w))
  | .lsrAbs w => .modifyMem .lsr 6 (.abs w)
  | .fx4F => .unassigned 0x4F
  | .bvc disp => .branch .v false 2 disp
  | .eorIzy b => .logic (· ^^^ ·) 5 (.mem (.izy b))
  | .fx52 => .unassigned 0x52
  | .fx53 => .unassigned 0x53
  | .fx54 => .unassigned 0x54
  | .eorZpx b => .logic (· ^^^ ·) 4 (.mem (.zpx b))
  | .lsrZpx b => .modifyMem .lsr 6 (.zpx b)
  | .fx57 => .unassigned 0x57
  | .cli => .writeFlag .i false 2
  | .eorAby w => .logic (· ^^^ ·) 4 (.mem (.aby w))
  | .fx5A => .unassigned 0x5A
  | .fx5B => .unassigned 0x5B
  | .fx5C => .unassigned 0x5C
  | .eorAbx w => .logic (· ^^^ ·) 4 (.mem (.abx w))
  | .lsrAbx w => .modifyMem .lsr 7 (.abx w)
  | .fx5F => .unassigned 0x5F
  | .rts => .returnSub 6
  | .adcIzx b => .arith false 6 (.mem (.izx b))
  | .fx62 => .unassigned 0x62
  | .fx63 => .unassigned 0x63
  | .fx64 => .unassigned 0x64
  | .adcZp b => .arith false 3 (.mem (.zp b))
  | .rorZp b => .modifyMem .ror 5 (.zp b)
  | .fx67 => .unassigned 0x67
  | .pla => .pullA 4
  | .adcImm b => .arith false 2 (.imm b)
  | .rorAcc => .modifyAcc .ror 2
  | .fx6B => .unassigned 0x6B
  | .jmpInd w => .jumpIndirect 5 w
  | .adcAbs w => .arith false 4 (.mem (.abs w))
  | .rorAbs w => .modifyMem .ror 6 (.abs w)
  | .fx6F => .unassigned 0x6F
  | .bvs disp => .branch .v true 2 disp
  | .adcIzy b => .arith false 5 (.mem (.izy b))
  | .fx72 => .unassigned 0x72
  | .fx73 => .unassigned 0x73
  | .fx74 => .unassigned 0x74
  | .adcZpx b => .arith false 4 (.mem (.zpx b))
  | .rorZpx b => .modifyMem .ror 6 (.zpx b)
  | .fx77 => .unassigned 0x77
  | .sei => .writeFlag .i true 2
  | .adcAby w => .arith false 4 (.mem (.aby w))
  | .fx7A => .unassigned 0x7A
  | .fx7B => .unassigned 0x7B
  | .fx7C => .unassigned 0x7C
  | .adcAbx w => .arith false 4 (.mem (.abx w))
  | .rorAbx w => .modifyMem .ror 7 (.abx w)
  | .fx7F => .unassigned 0x7F
  | .fx80 => .unassigned 0x80
  | .staIzx b => .store .a 6 (.izx b)
  | .fx82 => .unassigned 0x82
  | .fx83 => .unassigned 0x83
  | .styZp b => .store .y 3 (.zp b)
  | .staZp b => .store .a 3 (.zp b)
  | .stxZp b => .store .x 3 (.zp b)
  | .fx87 => .unassigned 0x87
  | .dey => .countReg .y (-1) 2
  | .fx89 => .unassigned 0x89
  | .txa => .transfer .x .a 2
  | .fx8B => .unassigned 0x8B
  | .styAbs w => .store .y 4 (.abs w)
  | .staAbs w => .store .a 4 (.abs w)
  | .stxAbs w => .store .x 4 (.abs w)
  | .fx8F => .unassigned 0x8F
  | .bcc disp => .branch .c false 2 disp
  | .staIzy b => .store .a 6 (.izy b)
  | .fx92 => .unassigned 0x92
  | .fx93 => .unassigned 0x93
  | .styZpx b => .store .y 4 (.zpx b)
  | .staZpx b => .store .a 4 (.zpx b)
  | .stxZpy b => .store .x 4 (.zpy b)
  | .fx97 => .unassigned 0x97
  | .tya => .transfer .y .a 2
  | .staAby w => .store .a 5 (.aby w)
  | .txs => .transferToSp 2
  | .fx9B => .unassigned 0x9B
  | .fx9C => .unassigned 0x9C
  | .staAbx w => .store .a 5 (.abx w)
  | .fx9E => .unassigned 0x9E
  | .fx9F => .unassigned 0x9F
  | .ldyImm b => .load .y 2 (.imm b)
  | .ldaIzx b => .load .a 6 (.mem (.izx b))
  | .ldxImm b => .load .x 2 (.imm b)
  | .fxA3 => .unassigned 0xA3
  | .ldyZp b => .load .y 3 (.mem (.zp b))
  | .ldaZp b => .load .a 3 (.mem (.zp b))
  | .ldxZp b => .load .x 3 (.mem (.zp b))
  | .fxA7 => .unassigned 0xA7
  | .tay => .transfer .a .y 2
  | .ldaImm b => .load .a 2 (.imm b)
  | .tax => .transfer .a .x 2
  | .fxAB => .unassigned 0xAB
  | .ldyAbs w => .load .y 4 (.mem (.abs w))
  | .ldaAbs w => .load .a 4 (.mem (.abs w))
  | .ldxAbs w => .load .x 4 (.mem (.abs w))
  | .fxAF => .unassigned 0xAF
  | .bcs disp => .branch .c true 2 disp
  | .ldaIzy b => .load .a 5 (.mem (.izy b))
  | .fxB2 => .unassigned 0xB2
  | .fxB3 => .unassigned 0xB3
  | .ldyZpx b => .load .y 4 (.mem (.zpx b))
  | .ldaZpx b => .load .a 4 (.mem (.zpx b))
  | .ldxZpy b => .load .x 4 (.mem (.zpy b))
  | .fxB7 => .unassigned 0xB7
  | .clv => .writeFlag .v false 2
  | .ldaAby w => .load .a 4 (.mem (.aby w))
  | .tsx => .transfer .sp .x 2
  | .fxBB => .unassigned 0xBB
  | .ldyAbx w => .load .y 4 (.mem (.abx w))
  | .ldaAbx w => .load .a 4 (.mem (.abx w))
  | .ldxAby w => .load .x 4 (.mem (.aby w))
  | .fxBF => .unassigned 0xBF
  | .cpyImm b => .compareReg .y 2 (.imm b)
  | .cmpIzx b => .compareReg .a 6 (.mem (.izx b))
  | .fxC2 => .unassigned 0xC2
  | .fxC3 => .unassigned 0xC3
  | .cpyZp b => .compareReg .y 3 (.mem (.zp b))
  | .cmpZp b => .compareReg .a 3 (.mem (.zp b))
  | .decZp b => .modifyMem .dec 5 (.zp b)
  | .fxC7 => .unassigned 0xC7
  | .iny => .countReg .y 1 2
  | .cmpImm b => .compareReg .a 2 (.imm b)
  | .dex => .countReg .x (-1) 2
  | .fxCB => .unassigned 0xCB
  | .cpyAbs w => .compareReg .y 4 (.mem (.abs w))
  | .cmpAbs w => .compareReg .a 4 (.mem (.abs w))
  | .decAbs w => .modifyMem .dec 6 (.abs w)
  | .fxCF => .unassigned 0xCF
  | .bne disp => .branch .z false 2 disp
  | .cmpIzy b => .compareReg .a 5 (.mem (.izy b))
  | .fxD2 => .unassigned 0xD2
  | .fxD3 => .unassigned 0xD3
  | .fxD4 => .unassigned 0xD4
  | .cmpZpx b => .compareReg .a 4 (.mem (.zpx b))
  | .decZpx b => .modifyMem .dec 6 (.zpx b)
  | .fxD7 => .unassigned 0xD7
  | .cld => .writeFlag .d false 2
  | .cmpAby w => .compareReg .a 4 (.mem (.aby w))
  | .fxDA => .unassigned 0xDA
  | .fxDB => .unassigned 0xDB
  | .fxDC => .unassigned 0xDC
  | .cmpAbx w => .compareReg .a 4 (.mem (.abx w))
  | .decAbx w => .modifyMem .dec 7 (.abx w)
  | .fxDF => .unassigned 0xDF
  | .cpxImm b => .compareReg .x 2 (.imm b)
  | .sbcIzx b => .arith true 6 (.mem (.izx b))
  | .fxE2 => .unassigned 0xE2
  | .fxE3 => .unassigned 0xE3
  | .cpxZp b => .compareReg .x 3 (.mem (.zp b))
  | .sbcZp b => .arith true 3 (.mem (.zp b))
  | .incZp b => .modifyMem .inc 5 (.zp b)
  | .fxE7 => .unassigned 0xE7
  | .inx => .countReg .x 1 2
  | .sbcImm b => .arith true 2 (.imm b)
  | .nop => .nop 2
  | .fxEB => .unassigned 0xEB
  | .cpxAbs w => .compareReg .x 4 (.mem (.abs w))
  | .sbcAbs w => .arith true 4 (.mem (.abs w))
  | .incAbs w => .modifyMem .inc 6 (.abs w)
  | .fxEF => .unassigned 0xEF
  | .beq disp => .branch .z true 2 disp
  | .sbcIzy b => .arith true 5 (.mem (.izy b))
  | .fxF2 => .unassigned 0xF2
  | .fxF3 => .unassigned 0xF3
  | .fxF4 => .unassigned 0xF4
  | .sbcZpx b => .arith true 4 (.mem (.zpx b))
  | .incZpx b => .modifyMem .inc 6 (.zpx b)
  | .fxF7 => .unassigned 0xF7
  | .sed => .writeFlag .d true 2
  | .sbcAby w => .arith true 4 (.mem (.aby w))
  | .fxFA => .unassigned 0xFA
  | .fxFB => .unassigned 0xFB
  | .fxFC => .unassigned 0xFC
  | .sbcAbx w => .arith true 4 (.mem (.abx w))
  | .incAbx w => .modifyMem .inc 7 (.abx w)
  | .fxFF => .unassigned 0xFF

/-- Every instruction is the instruction frame around the effect of its shape. -/
theorem exec_eq_form (i : Instr) (s : State) :
    exec i s = runInstr (Form.of i).size ((Form.of i).cycles s) (Form.of i).effect s := by
  cases i <;> rfl

/-! ## What an effect leaves alone -/

/-- What every effect keeps: IP and TICK, which the commit writes, the TIA, the configuration, the schedule, and the canonical form of memory. -/
structure Kept (s u : State) : Prop where
  ip : u.cpu.ip = s.cpu.ip
  tick : u.cpu.tick = s.cpu.tick
  tia : u.tia = s.tia
  cfg : u.cfg = s.cfg
  schedule : u.schedule = s.schedule
  wf : s.mem.wf → u.mem.wf

theorem Kept.trans {s t u : State} (h : Kept s t) (k : Kept t u) : Kept s u :=
  ⟨k.ip.trans h.ip, k.tick.trans h.tick, k.tia.trans h.tia, k.cfg.trans h.cfg, k.schedule.trans h.schedule,
    fun w => k.wf (h.wf w)⟩

/-- A change of the script and its record keeps all that. -/
theorem Kept.bus {s u : State} (h : u = s.withBus u.bus) : Kept s u := by
  rw [h]
  exact ⟨rfl, rfl, rfl, rfl, rfl, id⟩

theorem Kept.busWrite {a : Word} {v : Byte} {s t : State} (h : busWrite a v s = .ok t) : Kept s t := by
  rcases busWrite_frame h with rfl | h
  · exact ⟨rfl, rfl, rfl, rfl, rfl, fun w => Memory.write_wf w a.isLt v⟩
  · exact .bus h

theorem Kept.setReg (r : Reg) (v : Byte) (s : State) : Kept s (s.setReg r v) :=
  ⟨by simp, by simp, by simp, by simp, by simp, by simp⟩

theorem Kept.modifyP (f : Byte → Byte) (s : State) : Kept s (s.modifyP f) := ⟨rfl, rfl, rfl, rfl, rfl, id⟩

theorem Kept.setNip (t : Word) (s : State) : Kept s (s.setNip t) := ⟨rfl, rfl, rfl, rfl, rfl, id⟩

theorem Kept.push {v : Byte} {s t : State} (h : push v s = .ok t) : Kept s t := by
  obtain ⟨u, hu, rfl⟩ := push_ok.mp h
  exact (Kept.busWrite hu).trans (.setReg _ _ u)

theorem Kept.pull {v : Byte} {s t : State} (h : pull s = .ok (v, t)) : Kept s t :=
  (Kept.setReg _ _ s).trans (.bus (busRead_frame h))

theorem Kept.pullWord {w : Word} {s t : State} (h : pullWord s = .ok (w, t)) : Kept s t := by
  obtain ⟨lo, hi, u, h1, h2, -⟩ := pullWord_ok.mp h
  exact (Kept.pull h1).trans (Kept.pull h2)

/-- What every effect keeps. -/
theorem Form.frame (f : Form) {s u : State} {extra : Nat} (h : f.effect s = .ok (u, extra)) : Kept s u := by
  cases f with
  | load r c o | compareReg r c o | bitTest c o | logic op c o =>
    obtain ⟨⟨⟨m, e⟩, t⟩, ht, h⟩ := bind_ok.mp h
    simp only [Except.ok.injEq, Prod.mk.injEq] at h
    obtain ⟨rfl, rfl⟩ := h
    exact (Kept.bus (ReadOperand.read_frame ht)).trans ⟨by simp, by simp, by simp, by simp, by simp, by simp⟩
  | arith sub c o =>
    obtain ⟨⟨⟨m, e⟩, t⟩, ht, h⟩ := bind_ok.mp h
    simp only [Except.ok.injEq, Prod.mk.injEq] at h
    obtain ⟨rfl, rfl⟩ := h
    refine (Kept.bus (ReadOperand.read_frame ht)).trans ?_
    cases sub
    · exact ⟨rfl, rfl, rfl, rfl, rfl, id⟩
    · simp only [State.subFromA_eq]
      split <;> exact ⟨rfl, rfl, rfl, rfl, rfl, id⟩
  | store r c m =>
    obtain ⟨⟨⟨ea, x⟩, t⟩, ht, h⟩ := bind_ok.mp h
    obtain ⟨u, hu, h⟩ := bind_ok.mp h
    cases h
    exact (Kept.bus (MemOperand.address_frame ht)).trans (.busWrite hu)
  | modifyMem op c m =>
    obtain ⟨⟨⟨ea, x⟩, t⟩, ht, h⟩ := bind_ok.mp h
    obtain ⟨⟨v, u⟩, hu, h⟩ := bind_ok.mp h
    obtain ⟨w, hw, h⟩ := bind_ok.mp h
    cases h
    exact (((Kept.bus (MemOperand.address_frame ht)).trans (.bus (busRead_frame hu))).trans (.busWrite hw)).trans
      (.modifyP _ _)
  | transfer q r c | countReg q r c | modifyAcc q c =>
    simp only [Form.effect, Effect.pure, Except.ok.injEq, Prod.mk.injEq] at h
    obtain ⟨rfl, rfl⟩ := h
    exact ⟨by simp, by simp, by simp, by simp, by simp, by simp⟩
  | transferToSp c =>
    simp only [Form.effect, Effect.pure, Except.ok.injEq, Prod.mk.injEq] at h
    obtain ⟨rfl, rfl⟩ := h
    split <;> exact ⟨by simp, by simp, by simp, by simp, by simp, by simp⟩
  | nop c | jump c w | breakMark c | writeFlag q v c | unassigned op =>
    simp only [Form.effect, Effect.pure, Except.ok.injEq, Prod.mk.injEq] at h
    obtain ⟨rfl, rfl⟩ := h
    exact ⟨rfl, rfl, rfl, rfl, rfl, id⟩
  | jumpIndirect c w =>
    obtain ⟨⟨w, t⟩, ht, h⟩ := bind_ok.mp h
    cases h
    exact (Kept.bus (indirectTarget_frame ht)).trans (.setNip _ _)
  | call c w =>
    obtain ⟨t, ht, h⟩ := bind_ok.mp h
    obtain ⟨t', ht', h⟩ := bind_ok.mp h
    cases h
    exact ((Kept.push ht).trans (Kept.push ht')).trans (.setNip _ _)
  | returnSub c =>
    obtain ⟨⟨w, t⟩, ht, h⟩ := bind_ok.mp h
    cases h
    exact (Kept.pullWord ht).trans (.setNip _ _)
  | returnInt c =>
    obtain ⟨⟨p, t⟩, ht, h⟩ := bind_ok.mp h
    obtain ⟨⟨w, t'⟩, ht', h⟩ := bind_ok.mp h
    cases h
    exact (((Kept.pull ht).trans (.modifyP _ _)).trans (Kept.pullWord ht')).trans (.setNip _ _)
  | branch g want c d =>
    simp only [Form.effect] at h
    split at h <;> cases h
    · exact .setNip _ _
    · exact ⟨rfl, rfl, rfl, rfl, rfl, id⟩
  | pushByte c v =>
    obtain ⟨t, ht, h⟩ := bind_ok.mp h
    cases h
    exact Kept.push ht
  | pullA c | pullP c =>
    obtain ⟨⟨v, t⟩, ht, h⟩ := bind_ok.mp h
    cases h
    exact (Kept.pull ht).trans ⟨by simp, by simp, by simp, by simp, by simp, by simp⟩

/-- What an instruction can answer when it answers a next state: its effect was answered, and the commit follows. -/
theorem exec_next {i : Instr} {s t : State} :
    exec i s = .next t ↔ ∃ u extra,
      (Form.of i).effect (s.setNip (s.cpu.ip + BitVec.ofNat 16 (Form.of i).size)) = .ok (u, extra) ∧
      t = u.commit ((Form.of i).cycles s + extra) := by
  rw [exec_eq_form]
  exact runInstr_next

/-- An instruction stops exactly when its effect is refused an access. -/
theorem exec_fault {i : Instr} {s : State} {f : Fault} :
    exec i s = .fault f ↔
      (Form.of i).effect (s.setNip (s.cpu.ip + BitVec.ofNat 16 (Form.of i).size)) = .error f := by
  rw [exec_eq_form]
  exact runInstr_fault

theorem exec_not_refused (i : Instr) (s : State) (r : Refusal) : exec i s ≠ .refused r := by
  rw [exec_eq_form]
  exact runInstr_not_refused

/-- What every instruction leaves alone when it answers a next state. -/
theorem exec_keeps {i : Instr} {s t : State} (h : exec i s = .next t) :
    t.tia = s.tia ∧ t.cfg = s.cfg ∧ t.schedule = s.schedule ∧ t.cpu.ip = t.cpu.nip ∧ (s.mem.wf → t.mem.wf) := by
  obtain ⟨u, extra, he, rfl⟩ := exec_next.mp h
  have k := (Form.of i).frame he
  exact ⟨k.tia, k.cfg, k.schedule, rfl, k.wf⟩

end Sys2Proof.Machine
end

