-- ==== Sys2Proof/Laws/Numbers.lean ====
section
/-! SUPPORT. The address arithmetic in plain numbers: words made of bytes, and the indexed and pointer addresses. -/

namespace Sys2Proof.Machine

theorem wordOf_toNat (lo hi : Byte) : (wordOf lo hi).toNat = lo.toNat + 256 * hi.toNat := by
  have e : (wordOf lo hi).toNat = hi.toNat <<< 8 ||| lo.toNat := BitVec.toNat_append _ _
  rw [e, ← Nat.shiftLeft_add_eq_or_of_lt lo.isLt, Nat.shiftLeft_eq]
  omega

theorem wordOf_eq_ofNat (lo hi : Byte) : wordOf lo hi = BitVec.ofNat 16 (lo.toNat + 256 * hi.toNat) := by
  refine BitVec.eq_of_toNat_eq ?_
  have hl := lo.isLt
  have hh := hi.isLt
  rw [wordOf_toNat, BitVec.toNat_ofNat]
  omega

theorem highByte_toNat (w : Word) : (highByte w).toNat = w.toNat / 256 := by
  have hw := w.isLt
  simp only [highByte, BitVec.extractLsb'_toNat, Nat.shiftRight_eq_div_pow]
  omega

theorem lowByte_toNat (w : Word) : (lowByte w).toNat = w.toNat % 256 := by
  simp [lowByte, BitVec.extractLsb'_toNat]

theorem zext_eq_ofNat (b : Byte) : zext b = BitVec.ofNat 16 b.toNat := by
  refine BitVec.eq_of_toNat_eq ?_
  simp [zext]

theorem sext8_toInt (b : Byte) : (sext8 b).toInt = b.toInt := BitVec.toInt_signExtend_of_le (by decide)

/-- An indexed address, and when its page is another one. -/
theorem indexed_eq_ofNat (w : Word) (x : Byte) :
    indexed w x =
      (BitVec.ofNat 16 (w.toNat + x.toNat), decide ((w.toNat + x.toNat) % 65536 / 256 ≠ w.toNat / 256)) := by
  have h : w + zext x = BitVec.ofNat 16 (w.toNat + x.toNat) := by
    refine BitVec.eq_of_toNat_eq ?_
    simp [zext]
  unfold indexed
  simp only [h, Prod.mk.injEq, true_and]
  rw [Bool.eq_iff_iff]
  simp [bne_iff_ne, ← BitVec.toNat_inj, highByte_toNat]

theorem zpIndexed_eq_ofNat (cfg : Config) (b x : Byte) :
    zpIndexed cfg b x =
      BitVec.ofNat 16 (if cfg.zpIndexWrap then (b.toNat + x.toNat) % 256 else b.toNat + x.toNat) := by
  refine BitVec.eq_of_toNat_eq ?_
  have hb := b.isLt
  have hx := x.isLt
  unfold zpIndexed
  split <;> simp [zext]

theorem pointerHigh_eq_ofNat (cfg : Config) (z : Byte) :
    pointerHigh cfg z = BitVec.ofNat 16 (if cfg.ptrHiWrap then (z.toNat + 1) % 256 else z.toNat + 1) := by
  refine BitVec.eq_of_toNat_eq ?_
  have hz := z.isLt
  unfold pointerHigh
  split <;> simp [zext]

end Sys2Proof.Machine
end

