-- ==== Sys2Proof/Laws/PerInstr.lean ====
section
/-! SUPPORT. The family EncodeRoundTrip: for each constructor of Instr, decoding what encoding gives gives it back. -/

namespace Sys2Proof

/-- The two bytes of a word make the word again. -/
@[simp] theorem wordOf_bytes (w : Word) : wordOf (lowByte w) (highByte w) = w := by
  unfold wordOf lowByte highByte
  rw [BitVec.extractLsb'_append_extractLsb'_eq_extractLsb' (by rfl)]
  exact BitVec.extractLsb'_eq_self

@[simp] theorem lowByte_wordOf (lo hi : Byte) : lowByte (wordOf lo hi) = lo := by
  unfold lowByte wordOf
  exact BitVec.extractLsb'_append_eq_right

@[simp] theorem highByte_wordOf (lo hi : Byte) : highByte (wordOf lo hi) = hi := by
  unfold highByte wordOf
  exact BitVec.extractLsb'_append_eq_left

namespace Laws.EncodeRoundTrip

/-- Decoding the encoding of a well-formed instruction gives it back, whatever follows (30_encoding.md R100, R101, R104). -/
def Statement (i : Instr) : Prop := i.wellFormed = true → ∀ rest, decode (encode i ++ rest) = .ok (i, rest)

/-- A three-byte row: the decoder reads the word whose bytes the encoder wrote. -/
theorem three_bytes {op : Byte} {mk : Word → Instr} (h : formatOf op = .f3 mk) (w : Word) (rest : List Byte) :
    decode (op :: (wordBytes w ++ rest)) = .ok (mk w, rest) := by
  simp [decode, h, wordBytes]

theorem brk : Statement .brk := fun _ _ => rfl
theorem oraIzx (b : Byte) : Statement (.oraIzx b) := fun _ _ => rfl
theorem fx02 : Statement .fx02 := fun _ _ => rfl
theorem fx03 : Statement .fx03 := fun _ _ => rfl
theorem fx04 : Statement .fx04 := fun _ _ => rfl
theorem oraZp (b : Byte) : Statement (.oraZp b) := fun _ _ => rfl
theorem aslZp (b : Byte) : Statement (.aslZp b) := fun _ _ => rfl
theorem fx07 : Statement .fx07 := fun _ _ => rfl
theorem php : Statement .php := fun _ _ => rfl
theorem oraImm (b : Byte) : Statement (.oraImm b) := fun _ _ => rfl
theorem aslAcc : Statement .aslAcc := fun _ _ => rfl
theorem fx0B : Statement .fx0B := fun _ _ => rfl
theorem fx0C : Statement .fx0C := fun _ _ => rfl
theorem oraAbs (w : Word) : Statement (.oraAbs w) := fun _ rest => three_bytes rfl w rest
theorem aslAbs (w : Word) : Statement (.aslAbs w) := fun _ rest => three_bytes rfl w rest
theorem fx0F : Statement .fx0F := fun _ _ => rfl
theorem bpl (b : Byte) : Statement (.bpl b) := fun _ _ => rfl
theorem oraIzy (b : Byte) : Statement (.oraIzy b) := fun _ _ => rfl
theorem fx12 : Statement .fx12 := fun _ _ => rfl
theorem fx13 : Statement .fx13 := fun _ _ => rfl
theorem fx14 : Statement .fx14 := fun _ _ => rfl
theorem oraZpx (b : Byte) : Statement (.oraZpx b) := fun _ _ => rfl
theorem aslZpx (b : Byte) : Statement (.aslZpx b) := fun _ _ => rfl
theorem fx17 : Statement .fx17 := fun _ _ => rfl
theorem clc : Statement .clc := fun _ _ => rfl
theorem oraAby (w : Word) : Statement (.oraAby w) := fun _ rest => three_bytes rfl w rest
theorem fx1A : Statement .fx1A := fun _ _ => rfl
theorem fx1B : Statement .fx1B := fun _ _ => rfl
theorem fx1C : Statement .fx1C := fun _ _ => rfl
theorem oraAbx (w : Word) : Statement (.oraAbx w) := fun _ rest => three_bytes rfl w rest
theorem aslAbx (w : Word) : Statement (.aslAbx w) := fun _ rest => three_bytes rfl w rest
theorem fx1F : Statement .fx1F := fun _ _ => rfl
theorem jsr (w : Word) : Statement (.jsr w) := fun _ rest => three_bytes rfl w rest
theorem andIzx (b : Byte) : Statement (.andIzx b) := fun _ _ => rfl
theorem fx22 : Statement .fx22 := fun _ _ => rfl
theorem fx23 : Statement .fx23 := fun _ _ => rfl
theorem bitZp (b : Byte) : Statement (.bitZp b) := fun _ _ => rfl
theorem andZp (b : Byte) : Statement (.andZp b) := fun _ _ => rfl
theorem rolZp (b : Byte) : Statement (.rolZp b) := fun _ _ => rfl
theorem fx27 : Statement .fx27 := fun _ _ => rfl
theorem plp : Statement .plp := fun _ _ => rfl
theorem andImm (b : Byte) : Statement (.andImm b) := fun _ _ => rfl
theorem rolAcc : Statement .rolAcc := fun _ _ => rfl
theorem fx2B : Statement .fx2B := fun _ _ => rfl
theorem bitAbs (w : Word) : Statement (.bitAbs w) := fun _ rest => three_bytes rfl w rest
theorem andAbs (w : Word) : Statement (.andAbs w) := fun _ rest => three_bytes rfl w rest
theorem rolAbs (w : Word) : Statement (.rolAbs w) := fun _ rest => three_bytes rfl w rest
theorem fx2F : Statement .fx2F := fun _ _ => rfl
theorem bmi (b : Byte) : Statement (.bmi b) := fun _ _ => rfl
theorem andIzy (b : Byte) : Statement (.andIzy b) := fun _ _ => rfl
theorem fx32 : Statement .fx32 := fun _ _ => rfl
theorem fx33 : Statement .fx33 := fun _ _ => rfl
theorem fx34 : Statement .fx34 := fun _ _ => rfl
theorem andZpx (b : Byte) : Statement (.andZpx b) := fun _ _ => rfl
theorem rolZpx (b : Byte) : Statement (.rolZpx b) := fun _ _ => rfl
theorem fx37 : Statement .fx37 := fun _ _ => rfl
theorem sec : Statement .sec := fun _ _ => rfl
theorem andAby (w : Word) : Statement (.andAby w) := fun _ rest => three_bytes rfl w rest
theorem fx3A : Statement .fx3A := fun _ _ => rfl
theorem fx3B : Statement .fx3B := fun _ _ => rfl
theorem fx3C : Statement .fx3C := fun _ _ => rfl
theorem andAbx (w : Word) : Statement (.andAbx w) := fun _ rest => three_bytes rfl w rest
theorem rolAbx (w : Word) : Statement (.rolAbx w) := fun _ rest => three_bytes rfl w rest
theorem fx3F : Statement .fx3F := fun _ _ => rfl
theorem rti : Statement .rti := fun _ _ => rfl
theorem eorIzx (b : Byte) : Statement (.eorIzx b) := fun _ _ => rfl
theorem fx42 : Statement .fx42 := fun _ _ => rfl
theorem fx43 : Statement .fx43 := fun _ _ => rfl
theorem fx44 : Statement .fx44 := fun _ _ => rfl
theorem eorZp (b : Byte) : Statement (.eorZp b) := fun _ _ => rfl
theorem lsrZp (b : Byte) : Statement (.lsrZp b) := fun _ _ => rfl
theorem fx47 : Statement .fx47 := fun _ _ => rfl
theorem pha : Statement .pha := fun _ _ => rfl
theorem eorImm (b : Byte) : Statement (.eorImm b) := fun _ _ => rfl
theorem lsrAcc : Statement .lsrAcc := fun _ _ => rfl
theorem fx4B : Statement .fx4B := fun _ _ => rfl
theorem jmpAbs (w : Word) : Statement (.jmpAbs w) := fun _ rest => three_bytes rfl w rest
theorem eorAbs (w : Word) : Statement (.eorAbs w) := fun _ rest => three_bytes rfl w rest
theorem lsrAbs (w : Word) : Statement (.lsrAbs w) := fun _ rest => three_bytes rfl w rest
theorem fx4F : Statement .fx4F := fun _ _ => rfl
theorem bvc (b : Byte) : Statement (.bvc b) := fun _ _ => rfl
theorem eorIzy (b : Byte) : Statement (.eorIzy b) := fun _ _ => rfl
theorem fx52 : Statement .fx52 := fun _ _ => rfl
theorem fx53 : Statement .fx53 := fun _ _ => rfl
theorem fx54 : Statement .fx54 := fun _ _ => rfl
theorem eorZpx (b : Byte) : Statement (.eorZpx b) := fun _ _ => rfl
theorem lsrZpx (b : Byte) : Statement (.lsrZpx b) := fun _ _ => rfl
theorem fx57 : Statement .fx57 := fun _ _ => rfl
theorem cli : Statement .cli := fun _ _ => rfl
theorem eorAby (w : Word) : Statement (.eorAby w) := fun _ rest => three_bytes rfl w rest
theorem fx5A : Statement .fx5A := fun _ _ => rfl
theorem fx5B : Statement .fx5B := fun _ _ => rfl
theorem fx5C : Statement .fx5C := fun _ _ => rfl
theorem eorAbx (w : Word) : Statement (.eorAbx w) := fun _ rest => three_bytes rfl w rest
theorem lsrAbx (w : Word) : Statement (.lsrAbx w) := fun _ rest => three_bytes rfl w rest
theorem fx5F : Statement .fx5F := fun _ _ => rfl
theorem rts : Statement .rts := fun _ _ => rfl
theorem adcIzx (b : Byte) : Statement (.adcIzx b) := fun _ _ => rfl
theorem fx62 : Statement .fx62 := fun _ _ => rfl
theorem fx63 : Statement .fx63 := fun _ _ => rfl
theorem fx64 : Statement .fx64 := fun _ _ => rfl
theorem adcZp (b : Byte) : Statement (.adcZp b) := fun _ _ => rfl
theorem rorZp (b : Byte) : Statement (.rorZp b) := fun _ _ => rfl
theorem fx67 : Statement .fx67 := fun _ _ => rfl
theorem pla : Statement .pla := fun _ _ => rfl
theorem adcImm (b : Byte) : Statement (.adcImm b) := fun _ _ => rfl
theorem rorAcc : Statement .rorAcc := fun _ _ => rfl
theorem fx6B : Statement .fx6B := fun _ _ => rfl
theorem jmpInd (w : Word) : Statement (.jmpInd w) := fun _ rest => three_bytes rfl w rest
theorem adcAbs (w : Word) : Statement (.adcAbs w) := fun _ rest => three_bytes rfl w rest
theorem rorAbs (w : Word) : Statement (.rorAbs w) := fun _ rest => three_bytes rfl w rest
theorem fx6F : Statement .fx6F := fun _ _ => rfl
theorem bvs (b : Byte) : Statement (.bvs b) := fun _ _ => rfl
theorem adcIzy (b : Byte) : Statement (.adcIzy b) := fun _ _ => rfl
theorem fx72 : Statement .fx72 := fun _ _ => rfl
theorem fx73 : Statement .fx73 := fun _ _ => rfl
theorem fx74 : Statement .fx74 := fun _ _ => rfl
theorem adcZpx (b : Byte) : Statement (.adcZpx b) := fun _ _ => rfl
theorem rorZpx (b : Byte) : Statement (.rorZpx b) := fun _ _ => rfl
theorem fx77 : Statement .fx77 := fun _ _ => rfl
theorem sei : Statement .sei := fun _ _ => rfl
theorem adcAby (w : Word) : Statement (.adcAby w) := fun _ rest => three_bytes rfl w rest
theorem fx7A : Statement .fx7A := fun _ _ => rfl
theorem fx7B : Statement .fx7B := fun _ _ => rfl
theorem fx7C : Statement .fx7C := fun _ _ => rfl
theorem adcAbx (w : Word) : Statement (.adcAbx w) := fun _ rest => three_bytes rfl w rest
theorem rorAbx (w : Word) : Statement (.rorAbx w) := fun _ rest => three_bytes rfl w rest
theorem fx7F : Statement .fx7F := fun _ _ => rfl
theorem fx80 : Statement .fx80 := fun _ _ => rfl
theorem staIzx (b : Byte) : Statement (.staIzx b) := fun _ _ => rfl
theorem fx82 : Statement .fx82 := fun _ _ => rfl
theorem fx83 : Statement .fx83 := fun _ _ => rfl
theorem styZp (b : Byte) : Statement (.styZp b) := fun _ _ => rfl
theorem staZp (b : Byte) : Statement (.staZp b) := fun _ _ => rfl
theorem stxZp (b : Byte) : Statement (.stxZp b) := fun _ _ => rfl
theorem fx87 : Statement .fx87 := fun _ _ => rfl
theorem dey : Statement .dey := fun _ _ => rfl
theorem fx89 : Statement .fx89 := fun _ _ => rfl
theorem txa : Statement .txa := fun _ _ => rfl
theorem fx8B : Statement .fx8B := fun _ _ => rfl
theorem styAbs (w : Word) : Statement (.styAbs w) := fun _ rest => three_bytes rfl w rest
theorem staAbs (w : Word) : Statement (.staAbs w) := fun _ rest => three_bytes rfl w rest
theorem stxAbs (w : Word) : Statement (.stxAbs w) := fun _ rest => three_bytes rfl w rest
theorem fx8F : Statement .fx8F := fun _ _ => rfl
theorem bcc (b : Byte) : Statement (.bcc b) := fun _ _ => rfl
theorem staIzy (b : Byte) : Statement (.staIzy b) := fun _ _ => rfl
theorem fx92 : Statement .fx92 := fun _ _ => rfl
theorem fx93 : Statement .fx93 := fun _ _ => rfl
theorem styZpx (b : Byte) : Statement (.styZpx b) := fun _ _ => rfl
theorem staZpx (b : Byte) : Statement (.staZpx b) := fun _ _ => rfl
theorem stxZpy (b : Byte) : Statement (.stxZpy b) := fun _ _ => rfl
theorem fx97 : Statement .fx97 := fun _ _ => rfl
theorem tya : Statement .tya := fun _ _ => rfl
theorem staAby (w : Word) : Statement (.staAby w) := fun _ rest => three_bytes rfl w rest
theorem txs : Statement .txs := fun _ _ => rfl
theorem fx9B : Statement .fx9B := fun _ _ => rfl
theorem fx9C : Statement .fx9C := fun _ _ => rfl
theorem staAbx (w : Word) : Statement (.staAbx w) := fun _ rest => three_bytes rfl w rest
theorem fx9E : Statement .fx9E := fun _ _ => rfl
theorem fx9F : Statement .fx9F := fun _ _ => rfl
theorem ldyImm (b : Byte) : Statement (.ldyImm b) := fun _ _ => rfl
theorem ldaIzx (b : Byte) : Statement (.ldaIzx b) := fun _ _ => rfl
theorem ldxImm (b : Byte) : Statement (.ldxImm b) := fun _ _ => rfl
theorem fxA3 : Statement .fxA3 := fun _ _ => rfl
theorem ldyZp (b : Byte) : Statement (.ldyZp b) := fun _ _ => rfl
theorem ldaZp (b : Byte) : Statement (.ldaZp b) := fun _ _ => rfl
theorem ldxZp (b : Byte) : Statement (.ldxZp b) := fun _ _ => rfl
theorem fxA7 : Statement .fxA7 := fun _ _ => rfl
theorem tay : Statement .tay := fun _ _ => rfl
theorem ldaImm (b : Byte) : Statement (.ldaImm b) := fun _ _ => rfl
theorem tax : Statement .tax := fun _ _ => rfl
theorem fxAB : Statement .fxAB := fun _ _ => rfl
theorem ldyAbs (w : Word) : Statement (.ldyAbs w) := fun _ rest => three_bytes rfl w rest
theorem ldaAbs (w : Word) : Statement (.ldaAbs w) := fun _ rest => three_bytes rfl w rest
theorem ldxAbs (w : Word) : Statement (.ldxAbs w) := fun _ rest => three_bytes rfl w rest
theorem fxAF : Statement .fxAF := fun _ _ => rfl
theorem bcs (b : Byte) : Statement (.bcs b) := fun _ _ => rfl
theorem ldaIzy (b : Byte) : Statement (.ldaIzy b) := fun _ _ => rfl
theorem fxB2 : Statement .fxB2 := fun _ _ => rfl
theorem fxB3 : Statement .fxB3 := fun _ _ => rfl
theorem ldyZpx (b : Byte) : Statement (.ldyZpx b) := fun _ _ => rfl
theorem ldaZpx (b : Byte) : Statement (.ldaZpx b) := fun _ _ => rfl
theorem ldxZpy (b : Byte) : Statement (.ldxZpy b) := fun _ _ => rfl
theorem fxB7 : Statement .fxB7 := fun _ _ => rfl
theorem clv : Statement .clv := fun _ _ => rfl
theorem ldaAby (w : Word) : Statement (.ldaAby w) := fun _ rest => three_bytes rfl w rest
theorem tsx : Statement .tsx := fun _ _ => rfl
theorem fxBB : Statement .fxBB := fun _ _ => rfl
theorem ldyAbx (w : Word) : Statement (.ldyAbx w) := fun _ rest => three_bytes rfl w rest
theorem ldaAbx (w : Word) : Statement (.ldaAbx w) := fun _ rest => three_bytes rfl w rest
theorem ldxAby (w : Word) : Statement (.ldxAby w) := fun _ rest => three_bytes rfl w rest
theorem fxBF : Statement .fxBF := fun _ _ => rfl
theorem cpyImm (b : Byte) : Statement (.cpyImm b) := fun _ _ => rfl
theorem cmpIzx (b : Byte) : Statement (.cmpIzx b) := fun _ _ => rfl
theorem fxC2 : Statement .fxC2 := fun _ _ => rfl
theorem fxC3 : Statement .fxC3 := fun _ _ => rfl
theorem cpyZp (b : Byte) : Statement (.cpyZp b) := fun _ _ => rfl
theorem cmpZp (b : Byte) : Statement (.cmpZp b) := fun _ _ => rfl
theorem decZp (b : Byte) : Statement (.decZp b) := fun _ _ => rfl
theorem fxC7 : Statement .fxC7 := fun _ _ => rfl
theorem iny : Statement .iny := fun _ _ => rfl
theorem cmpImm (b : Byte) : Statement (.cmpImm b) := fun _ _ => rfl
theorem dex : Statement .dex := fun _ _ => rfl
theorem fxCB : Statement .fxCB := fun _ _ => rfl
theorem cpyAbs (w : Word) : Statement (.cpyAbs w) := fun _ rest => three_bytes rfl w rest
theorem cmpAbs (w : Word) : Statement (.cmpAbs w) := fun _ rest => three_bytes rfl w rest
theorem decAbs (w : Word) : Statement (.decAbs w) := fun _ rest => three_bytes rfl w rest
theorem fxCF : Statement .fxCF := fun _ _ => rfl
theorem bne (b : Byte) : Statement (.bne b) := fun _ _ => rfl
theorem cmpIzy (b : Byte) : Statement (.cmpIzy b) := fun _ _ => rfl
theorem fxD2 : Statement .fxD2 := fun _ _ => rfl
theorem fxD3 : Statement .fxD3 := fun _ _ => rfl
theorem fxD4 : Statement .fxD4 := fun _ _ => rfl
theorem cmpZpx (b : Byte) : Statement (.cmpZpx b) := fun _ _ => rfl
theorem decZpx (b : Byte) : Statement (.decZpx b) := fun _ _ => rfl
theorem fxD7 : Statement .fxD7 := fun _ _ => rfl
theorem cld : Statement .cld := fun _ _ => rfl
theorem cmpAby (w : Word) : Statement (.cmpAby w) := fun _ rest => three_bytes rfl w rest
theorem fxDA : Statement .fxDA := fun _ _ => rfl
theorem fxDB : Statement .fxDB := fun _ _ => rfl
theorem fxDC : Statement .fxDC := fun _ _ => rfl
theorem cmpAbx (w : Word) : Statement (.cmpAbx w) := fun _ rest => three_bytes rfl w rest
theorem decAbx (w : Word) : Statement (.decAbx w) := fun _ rest => three_bytes rfl w rest
theorem fxDF : Statement .fxDF := fun _ _ => rfl
theorem cpxImm (b : Byte) : Statement (.cpxImm b) := fun _ _ => rfl
theorem sbcIzx (b : Byte) : Statement (.sbcIzx b) := fun _ _ => rfl
theorem fxE2 : Statement .fxE2 := fun _ _ => rfl
theorem fxE3 : Statement .fxE3 := fun _ _ => rfl
theorem cpxZp (b : Byte) : Statement (.cpxZp b) := fun _ _ => rfl
theorem sbcZp (b : Byte) : Statement (.sbcZp b) := fun _ _ => rfl
theorem incZp (b : Byte) : Statement (.incZp b) := fun _ _ => rfl
theorem fxE7 : Statement .fxE7 := fun _ _ => rfl
theorem inx : Statement .inx := fun _ _ => rfl
theorem sbcImm (b : Byte) : Statement (.sbcImm b) := fun _ _ => rfl
theorem nop : Statement .nop := fun _ _ => rfl
theorem fxEB : Statement .fxEB := fun _ _ => rfl
theorem cpxAbs (w : Word) : Statement (.cpxAbs w) := fun _ rest => three_bytes rfl w rest
theorem sbcAbs (w : Word) : Statement (.sbcAbs w) := fun _ rest => three_bytes rfl w rest
theorem incAbs (w : Word) : Statement (.incAbs w) := fun _ rest => three_bytes rfl w rest
theorem fxEF : Statement .fxEF := fun _ _ => rfl
theorem beq (b : Byte) : Statement (.beq b) := fun _ _ => rfl
theorem sbcIzy (b : Byte) : Statement (.sbcIzy b) := fun _ _ => rfl
theorem fxF2 : Statement .fxF2 := fun _ _ => rfl
theorem fxF3 : Statement .fxF3 := fun _ _ => rfl
theorem fxF4 : Statement .fxF4 := fun _ _ => rfl
theorem sbcZpx (b : Byte) : Statement (.sbcZpx b) := fun _ _ => rfl
theorem incZpx (b : Byte) : Statement (.incZpx b) := fun _ _ => rfl
theorem fxF7 : Statement .fxF7 := fun _ _ => rfl
theorem sed : Statement .sed := fun _ _ => rfl
theorem sbcAby (w : Word) : Statement (.sbcAby w) := fun _ rest => three_bytes rfl w rest
theorem fxFA : Statement .fxFA := fun _ _ => rfl
theorem fxFB : Statement .fxFB := fun _ _ => rfl
theorem fxFC : Statement .fxFC := fun _ _ => rfl
theorem sbcAbx (w : Word) : Statement (.sbcAbx w) := fun _ rest => three_bytes rfl w rest
theorem incAbx (w : Word) : Statement (.incAbx w) := fun _ rest => three_bytes rfl w rest
theorem fxFF : Statement .fxFF := fun _ _ => rfl

end Laws.EncodeRoundTrip

end Sys2Proof
end

