-- ==== Sys2Proof/Laws/Tia.lean ====
section
/-! SUPPORT. The laws of the TIA: the collision set, the clock, and what one drawn column changes. -/

namespace Sys2Proof.Machine

/-! ## The collision set -/

@[simp] theorem Collisions.has_none (p : Pair) : Collisions.none.has p = false := by cases p <;> rfl

@[simp] theorem Collisions.has_ofTest (f : Pair → Bool) (p : Pair) : (Collisions.ofTest f).has p = f p := by
  cases p <;> rfl

@[simp] theorem Collisions.has_union (k l : Collisions) (p : Pair) : (k.union l).has p = (k.has p || l.has p) := by
  simp [Collisions.union]

/-- Two sets with the same categories are the same set. -/
theorem Collisions.ext_of_has {k l : Collisions} (h : ∀ p, k.has p = l.has p) : k = l := by
  obtain ⟨⟩ := k
  obtain ⟨⟩ := l
  simp only [Collisions.mk.injEq]
  exact ⟨h .pfBl, h .pfP0, h .pfM0, h .pfP1, h .pfM1, h .blP0, h .blM0, h .blP1, h .blM1, h .p0M0, h .p0P1, h .p0M1,
    h .m0P1, h .m0M1, h .p1M1⟩

@[simp] theorem On.has_pairs (on : On) (p : Pair) : on.pairs.has p = (on.get p.objects.1 && on.get p.objects.2) := by
  simp [On.pairs]

/-! ## One tick -/

/-- `u` has every register of `t`: only the output, the latches and the clock may differ. -/
def Tia.SameRegisters (t u : Tia) : Prop :=
  u = { t with scanline := u.scanline, collisions := u.collisions, colorClock := u.colorClock }

theorem Tia.SameRegisters.refl (t : Tia) : t.SameRegisters t := rfl

theorem Tia.SameRegisters.trans {t u v : Tia} (h : t.SameRegisters u) (k : u.SameRegisters v) : t.SameRegisters v := by
  unfold Tia.SameRegisters at *
  rw [k, h]

/-- What a column shows depends on the registers alone. -/
theorem Tia.SameRegisters.colourAt {t u : Tia} (h : t.SameRegisters u) (c : Fin 160) : u.colourAt c = t.colourAt c := by
  rw [h]
  rfl

theorem Tia.SameRegisters.onAt {t u : Tia} (h : t.SameRegisters u) (c : Fin 160) : u.onAt c = t.onAt c := by
  rw [h]
  rfl

theorem Tia.SameRegisters.legal {t u : Tia} (h : t.SameRegisters u) : u.Legal ↔ t.Legal := by
  rw [h]
  exact Iff.rfl

theorem Tia.draw_sameRegisters (t : Tia) : t.SameRegisters t.draw := by
  unfold Tia.draw
  split <;> rfl

@[simp] theorem Tia.draw_colorClock (t : Tia) : t.draw.colorClock = t.colorClock := by
  unfold Tia.draw
  split <;> rfl

/-- A tick is a draw and the next clock value. -/
theorem Tia.nextClockTick_eq (t : Tia) :
    t.nextClockTick = ({ t.draw with colorClock := ⟨(t.colorClock.val + 1) % 228, Nat.mod_lt _ (by decide)⟩ },
      decide (t.colorClock.val = 227)) := by
  have hlt := t.colorClock.isLt
  unfold Tia.nextClockTick
  split
  · rename_i h
    have h' : t.colorClock.val = 227 := by omega
    simp [h']
  · rename_i h
    have h' : (t.colorClock.val + 1) % 228 = t.colorClock.val + 1 := Nat.mod_eq_of_lt (by omega)
    have h'' : t.colorClock.val ≠ 227 := by omega
    simp [h', h'']

theorem Tia.nextClockTick_sameRegisters (t : Tia) : t.SameRegisters t.nextClockTick.1 := by
  rw [Tia.nextClockTick_eq]
  exact (Tia.draw_sameRegisters t).trans rfl

theorem Tia.nextClockTick_clock (t : Tia) : t.nextClockTick.1.colorClock.val = (t.colorClock.val + 1) % 228 := by
  rw [Tia.nextClockTick_eq]

/-- A draw latches what is on at its column, and forgets nothing. -/
theorem Tia.draw_has (t : Tia) (p : Pair) :
    t.draw.collisions.has p = (t.collisions.has p ||
      if h : 68 ≤ t.colorClock.val then
        (t.onAt ⟨t.colorClock.val - 68, by omega⟩).get p.objects.1 && (t.onAt ⟨t.colorClock.val - 68, by omega⟩).get p.objects.2
      else false) := by
  unfold Tia.draw
  split
  · simp [Tia.drawColumn]
  · simp

/-- A draw writes one entry of the output. -/
theorem Tia.draw_scanline (t : Tia) (c : Fin 160) :
    t.draw.scanline[c] = if t.colorClock.val = c.val + 68 then t.colourAt c else t.scanline[c] := by
  unfold Tia.draw
  split
  · rename_i h
    simp only [Tia.drawColumn, Fin.getElem_fin, Vector.getElem_set]
    by_cases hc : t.colorClock.val = c.val + 68
    · have e : (⟨t.colorClock.val - 68, by omega⟩ : Fin 160) = c := Fin.ext (by simp; omega)
      rw [if_pos (by omega), if_pos hc, e]
    · rw [if_neg (by omega), if_neg hc]
  · rename_i h
    rw [if_neg (by omega)]

/-! ## The bus ports -/

/-- The player geometries of the reset state and of every NUSIZ write are legal. -/
theorem Sprite.setGeometry_legal (n : BitVec 3) (p : Sprite 8) : (p.setGeometry n).legalPlayer := ⟨n, rfl⟩

theorem Tia.reset_legal : Tia.reset.Legal :=
  ⟨⟨0, rfl⟩, ⟨0, rfl⟩, ⟨rfl, rfl, rfl⟩, ⟨⟨rfl, rfl, rfl⟩, rfl⟩, ⟨⟨rfl, rfl, rfl⟩, rfl⟩⟩

/-- A position past an edge stops at it. -/
theorem clampColumn_val (v : Int) : ((clampColumn v).val : Int) = max 0 (min v 159) := by
  unfold clampColumn
  split
  · simp; omega
  · split
    · simp; omega
    · simp; omega

end Sys2Proof.Machine
end

