-- ==== Sys2Proof/Laws/Step.lean ====
section
/-! SUPPORT. What a step of the machine can do, said once: what a fetch answers, what each call answers, what a run adds up to, and what every step keeps. -/

namespace Sys2Proof.Machine

/-! ## Runs -/

theorem runsTo_zero {s t : State} : RunsTo 0 s t ↔ s = t := by
  unfold RunsTo
  show Host.Outcome.next s = Host.Outcome.next t ↔ _
  simp

/-- A run of one step more, of any machine. -/
theorem run_succ {M : Host.Core} {n : Nat} {s u : M.State} :
    M.run (n + 1) s = .next u ↔ ∃ t, M.step s = .next t ∧ M.run n t = .next u := by
  show (match M.step s with
    | .next s' => M.run n s'
    | .fault r => .fault r
    | .refused r => .refused r) = _ ↔ _
  cases M.step s <;> simp

/-- A run of one step more is a step and then the run. -/
theorem runsTo_succ {n : Nat} {s u : State} : RunsTo (n + 1) s u ↔ ∃ t, step s = .next t ∧ RunsTo n t u :=
  run_succ (M := core)

/-! ## Steps -/

theorem step_empty {s : State} (h : s.schedule = []) : step s = cpuStep s := by
  unfold step
  rw [h]

theorem step_call {s : State} {c : Call} {rest : List Call} (h : s.schedule = c :: rest) :
    step s = perform c { s with schedule := rest } := by
  unfold step
  rw [h]

/-- A CPU step that answers ran the instruction at IP. -/
theorem cpuStep_next {s t : State} :
    cpuStep s = .next t ↔ ∃ i u, fetchAt s.cpu.ip s = .ok (i, u) ∧ exec i u = .next t := by
  unfold cpuStep
  cases hf : fetchAt s.cpu.ip s with
  | ok p => simp [Prod.ext_iff]
  | error f => simp

/-- A CPU step that stops was refused a byte of the instruction, or an access of its effect. -/
theorem cpuStep_fault {s : State} {f : Fault} :
    cpuStep s = .fault f ↔
      fetchAt s.cpu.ip s = .error f ∨ ∃ i u, fetchAt s.cpu.ip s = .ok (i, u) ∧ exec i u = .fault f := by
  unfold cpuStep
  cases hf : fetchAt s.cpu.ip s with
  | ok p => simp [Prod.ext_iff]
  | error e => simp

/-- What a fetch can change: the script and its record. -/
theorem fetchAt_frame {a : Word} {s u : State} {i : Instr} (h : fetchAt a s = .ok (i, u)) : u = s.withBus u.bus := by
  obtain ⟨⟨op, t⟩, h0, h⟩ := bind_ok.mp h
  have h0 := busRead_frame h0
  simp only at h
  split at h
  · cases h
    exact h0
  · obtain ⟨⟨b1, v⟩, h1, h⟩ := bind_ok.mp h
    cases h
    rw [busRead_frame h1, h0, State.withBus_withBus, State.withBus_bus]
  · obtain ⟨⟨b1, v⟩, h1, h⟩ := bind_ok.mp h
    obtain ⟨⟨b2, w⟩, h2, h⟩ := bind_ok.mp h
    cases h
    rw [busRead_frame h2, busRead_frame h1, h0]
    simp only [State.withBus_withBus, State.withBus_bus]

/-- A fetch notices nothing that an access does not. -/
theorem Unseen.fetchAt {g : State → State} (hg : Unseen g) (a : Word) (s : State) :
    Machine.fetchAt a (g s) = thenState g (Machine.fetchAt a s) := by
  unfold Machine.fetchAt
  simp only [hg.busRead, bind]
  cases Machine.busRead a s with
  | error e => rfl
  | ok p =>
    simp only [thenState, Except.bind]
    split
    · rfl
    · simp only [hg.busRead]
      cases Machine.busRead (a + 1) p.2 <;> rfl
    · simp only [hg.busRead]
      cases Machine.busRead (a + 1) p.2 with
      | error e => rfl
      | ok q =>
        simp only [thenState, hg.busRead]
        cases Machine.busRead (a + 2) q.2 <;> rfl

/-- What every CPU step keeps. -/
theorem cpuStep_keeps {s t : State} (h : cpuStep s = .next t) :
    t.tia = s.tia ∧ t.cfg = s.cfg ∧ t.schedule = s.schedule ∧ (s.mem.wf → t.mem.wf) := by
  obtain ⟨i, u, hu, hi⟩ := cpuStep_next.mp h
  have k := exec_keeps hi
  rw [fetchAt_frame hu] at k
  exact ⟨k.1, k.2.1, k.2.2.1, k.2.2.2.2⟩

/-- One pass of a run-to-break that answers: after the peek it ended at the break, or at the limit, or made one CPU step. -/
theorem runPass_next {left : Option Nat} {s t : State} (h : runPass left s = .next t) :
    ∃ op u, busRead s.cpu.ip s = .ok (op, u) ∧ (t = u.emit .breakReached ∨ t = u.emit .limitReached ∨
      cpuStep { u with schedule := .continueRun (stepsLeftAfterOne left) :: u.schedule } = .next t) := by
  unfold runPass at h
  split at h
  · cases h
  · rename_i op u hu
    refine ⟨op, u, hu, ?_⟩
    split at h
    · cases h
      exact .inl rfl
    · split at h
      · cases h
        exact .inr (.inl rfl)
      · exact .inr (.inr h)

theorem runPass_keeps {left : Option Nat} {s t : State} (h : runPass left s = .next t) :
    t.tia = s.tia ∧ t.cfg = s.cfg ∧ (s.mem.wf → t.mem.wf) := by
  obtain ⟨op, u, hu, h⟩ := runPass_next h
  rw [busRead_frame hu] at h
  rcases h with rfl | rfl | h
  · exact ⟨rfl, rfl, id⟩
  · exact ⟨rfl, rfl, id⟩
  · have k := cpuStep_keeps h
    exact ⟨k.1, k.2.1, k.2.2.2⟩

/-- What an inspection can change: the script and its record, where it reads memory. -/
theorem probeValue_frame {name : Probe} {s u : State} {v : Nat} (h : probeValue name s = .ok (v, u)) : u = s.withBus u.bus := by
  cases name with
  | m addr =>
    obtain ⟨⟨b, t⟩, hb, h⟩ := bind_ok.mp h
    cases h
    exact busRead_frame hb
  | _ => cases h; rfl

/-- What a step can do to the TIA. -/
inductive TiaMove (cfg : Config) (t : Tia) : Tia → Prop where
  | stays : TiaMove cfg t t
  | tick : TiaMove cfg t t.nextClockTick.1
  | line : TiaMove cfg t t.renderScanline
  | toClock (target : Fin 228) : TiaMove cfg t (t.runToClock target)
  | write (addr : Nat) (v : Byte) : TiaMove cfg t (t.writeRegister cfg addr v)

/-- What every call keeps: the configuration and the form of memory; the TIA changes by its own ports alone. -/
theorem perform_keeps {c : Call} {s t : State} (h : perform c s = .next t) :
    t.cfg = s.cfg ∧ (s.mem.wf → t.mem.wf) ∧ TiaMove s.cfg s.tia t.tia := by
  have stay : ∀ {u : State}, u.tia = s.tia ∧ u.cfg = s.cfg ∧ (s.mem.wf → u.mem.wf) →
      u.cfg = s.cfg ∧ (s.mem.wf → u.mem.wf) ∧ TiaMove s.cfg s.tia u.tia := fun ⟨a, b, c⟩ => ⟨b, c, a ▸ .stays⟩
  cases c with
  | cpuStep =>
    have k := cpuStep_keeps h
    exact stay ⟨k.1, k.2.1, k.2.2.2⟩
  | runToBreak start =>
    have k := runPass_keeps h
    exact stay (by simpa using k)
  | continueRun left => exact stay (runPass_keeps h)
  | nextClockTick => cases h; exact ⟨rfl, id, .tick⟩
  | renderScanline => cases h; exact ⟨rfl, id, .line⟩
  | runToClock target => cases h; exact ⟨rfl, id, .toClock target⟩
  | writeRegister addr v => cases h; exact ⟨rfl, id, .write addr v⟩
  | readRegister addr => cases h; exact ⟨rfl, id, .stays⟩
  | inspect name =>
    simp only [perform] at h
    split at h
    · rename_i hp
      cases h
      rw [probeValue_frame hp]
      exact ⟨rfl, id, .stays⟩
    · cases h
  | snapshot => cases h; exact ⟨rfl, id, .stays⟩
  | disassembleStep addr =>
    simp only [perform] at h
    split at h
    · rename_i hp
      cases h
      rw [fetchAt_frame hp]
      exact ⟨rfl, id, .stays⟩
    · cases h

/-- What every step keeps. -/
theorem step_keeps {s t : State} (h : step s = .next t) :
    t.cfg = s.cfg ∧ (s.mem.wf → t.mem.wf) ∧ TiaMove s.cfg s.tia t.tia := by
  unfold step at h
  split at h
  · have k := cpuStep_keeps h
    exact ⟨k.2.1, k.2.2.2, k.1 ▸ .stays⟩
  · have k := perform_keeps h
    exact k

end Sys2Proof.Machine
end

