-- ==== Sys2Proof/Laws/Schedule.lean ====
section
/-! SUPPORT. An instruction does not look at what no access notices and no effect touches, the pending calls among it: with others scheduled it does the
same and leaves them scheduled. -/

namespace Sys2Proof.Machine

/-- A change of state that no effect of an instruction notices or touches. -/
structure Outside (g : State → State) : Prop extends Unseen g where
  setNip (t : Word) (s : State) : (g s).setNip t = g (s.setNip t)
  draws (s : State) : (g s).draws = s.draws
  drawn (s : State) : (g s).drawBit.2 = g s.drawBit.2
  emit (e : Event) (s : State) : (g s).emit e = g (s.emit e)

/-- The answer of an effect with its state changed. -/
def thenEffect (g : State → State) : Except Fault (State × Nat) → Except Fault (State × Nat)
  | .ok (s, n) => .ok (g s, n)
  | .error f => .error f

namespace Outside
variable {g : State → State} (hg : Outside g)
include hg

theorem putAlu (r : AluResult) (s : State) : (g s).putAlu r = g (s.putAlu r) := by
  simp only [State.putAlu, State.setFlag, State.setNZ, hg.modifyP, hg.setReg]

theorem addToA (m : Byte) (s : State) : Machine.addToA m (g s) = g (Machine.addToA m s) := by
  simp only [State.addToA_eq, hg.flag, hg.cfg, hg.putAlu, ← State.reg_a, hg.reg]

theorem subFromA (m : Byte) (s : State) : Machine.subFromA m (g s) = g (Machine.subFromA m s) := by
  simp only [State.subFromA_eq, hg.flag, hg.draws, hg.drawn, hg.putAlu, hg.addToA, ← State.reg_a, hg.reg]
  split <;> rfl

/-- The effect of a shape does the same; the byte a push takes must not be read from what is changed. -/
theorem effect (φ : Form) (hv : ∀ c v, φ = .pushByte c v → ∀ s, v (g s) = v s) (s : State) :
    φ.effect (g s) = thenEffect g (φ.effect s) := by
  cases φ with
  | load r c o | compareReg r c o | bitTest c o | logic op c o =>
    simp only [Form.effect, hg.read, bind]
    cases o.read s with
    | error e => rfl
    | ok p => simp only [thenState, thenEffect, Except.bind, ← State.reg_a, hg.reg, hg.setReg, hg.modifyP, State.setNZ]
  | arith sub c o =>
    simp only [Form.effect, hg.read, bind]
    cases o.read s with
    | error e => rfl
    | ok p => cases sub <;> simp only [thenState, thenEffect, Except.bind, hg.addToA, hg.subFromA]
  | store r c m =>
    simp only [Form.effect, hg.address, bind]
    cases m.address s with
    | error e => rfl
    | ok p =>
      simp only [thenState, Except.bind, hg.busWrite, hg.reg]
      cases Machine.busWrite p.1.1 (p.2.reg r) p.2 <;> rfl
  | modifyMem op c m =>
    simp only [Form.effect, hg.address, bind]
    cases m.address s with
    | error e => rfl
    | ok p =>
      simp only [thenState, Except.bind, hg.busRead]
      cases Machine.busRead p.1.1 p.2 with
      | error e => rfl
      | ok q =>
        simp only [hg.busWrite, hg.flag]
        cases Machine.busWrite p.1.1 (op.result q.1 (q.2.flag .c)) q.2 with
        | error e => rfl
        | ok u => simp only [Except.map, thenEffect, hg.modifyP]
  | transfer q r c | countReg q r c | modifyAcc q c =>
    simp only [Form.effect, Effect.pure, thenEffect, ← State.reg_a, hg.reg, hg.flag, hg.setReg, hg.modifyP, State.setNZ]
  | transferToSp c =>
    simp only [Form.effect, Effect.pure, thenEffect, hg.cfg, hg.x, hg.setReg, hg.modifyP, State.setNZ]
    split <;> rfl
  | nop c => rfl
  | jump c w => simp only [Form.effect, Effect.pure, thenEffect, hg.setNip]
  | breakMark c | writeFlag q v c => simp only [Form.effect, Effect.pure, thenEffect, State.setFlag, hg.modifyP]
  | unassigned op => simp only [Form.effect, Effect.pure, thenEffect, hg.emit]
  | jumpIndirect c w =>
    simp only [Form.effect, bind, hg.indirectTarget]
    cases Machine.indirectTarget w s with
    | error e => rfl
    | ok p => simp only [thenState, thenEffect, Except.bind, hg.setNip]
  | call c w =>
    simp only [Form.effect, bind, hg.push, hg.returnAddr]
    cases Machine.push (highByte (Machine.returnAddr s)) s with
    | error e => rfl
    | ok u =>
      simp only [Except.bind, Except.map, hg.push]
      cases Machine.push (lowByte (Machine.returnAddr s)) u with
      | error e => rfl
      | ok v => simp only [thenEffect, hg.setNip]
  | returnSub c =>
    simp only [Form.effect, bind, hg.pullWord]
    cases Machine.pullWord s with
    | error e => rfl
    | ok p => simp only [thenState, thenEffect, Except.bind, hg.setNip]
  | returnInt c =>
    simp only [Form.effect, bind, hg.pull]
    cases Machine.pull s with
    | error e => rfl
    | ok p =>
      simp only [thenState, Except.bind, hg.modifyP, hg.pullWord]
      cases Machine.pullWord (p.2.modifyP fun _ => p.1) with
      | error e => rfl
      | ok q => simp only [thenEffect, hg.setNip]
  | branch f want c d =>
    simp only [Form.effect, hg.flag, branchTarget, branchBase, hg.ip, hg.setNip]
    split <;> rfl
  | pushByte c v =>
    simp only [Form.effect, bind, hg.push, hv c v rfl]
    cases Machine.push (v s) s <;> rfl
  | pullA c | pullP c =>
    simp only [Form.effect, bind, hg.pull]
    cases Machine.pull s with
    | error e => rfl
    | ok p => simp only [thenState, thenEffect, Except.bind, hg.setReg, hg.modifyP, State.setNZ]

/-- An instruction that answers a next state answers the same with such a change made beforehand. -/
theorem exec {i : Instr} {s t : State} (hc : ∀ n s, (g s).commit n = g (s.commit n)) (h : Machine.exec i s = .next t) :
    Machine.exec i (g s) = .next (g t) := by
  obtain ⟨u, extra, he, rfl⟩ := exec_next.mp h
  have hv : ∀ c v, Form.of i = .pushByte c v → ∀ s, v (g s) = v s := by
    intro c v h s
    cases i <;> first | (cases h; exact hg.reg .a s) | (cases h; exact hg.p s) | cases h
  have hn : (Form.of i).cycles (g s) = (Form.of i).cycles s := by
    cases i <;> first | rfl | exact congrArg Config.unassignedCycles (hg.cfg s)
  refine exec_next.mpr ⟨g u, extra, ?_, by rw [hn, hc]⟩
  rw [hg.setNip, hg.ip, hg.effect _ hv, he]
  rfl

end Outside

/-- The same machine with other calls pending. -/
def State.withSchedule (l : List Call) (s : State) : State := { s with schedule := l }

/-- No effect of an instruction notices or touches the pending calls. -/
theorem Outside.withSchedule (l : List Call) : Outside (State.withSchedule l) where
  reg r s := by cases r <;> rfl
  p _ := rfl
  ip _ := rfl
  mem _ := rfl
  bus _ := rfl
  cfg _ := rfl
  withMem _ _ := rfl
  withBus _ _ := rfl
  setReg r v s := by cases r <;> rfl
  modifyP _ _ := rfl
  setNip _ _ := rfl
  draws _ := rfl
  drawn _ := rfl
  emit _ _ := rfl

/-- An instruction that answers a next state answers the same with other calls pending, and leaves them pending. -/
theorem exec_withSchedule {i : Instr} {s t : State} (l : List Call) (h : exec i s = .next t) :
    exec i (s.withSchedule l) = .next (t.withSchedule l) := (Outside.withSchedule l).exec (fun _ _ => rfl) h

/-- And so does a CPU step. -/
theorem cpuStep_withSchedule {s t : State} (l : List Call) (h : cpuStep s = .next t) :
    cpuStep (s.withSchedule l) = .next (t.withSchedule l) := by
  obtain ⟨i, u, hu, he⟩ := cpuStep_next.mp h
  refine cpuStep_next.mpr ⟨i, u.withSchedule l, ?_, exec_withSchedule l he⟩
  have := (Outside.withSchedule l).fetchAt s.cpu.ip s
  rw [hu] at this
  exact this

end Sys2Proof.Machine
end

