-- ==== Sys2Proof/Tests/Slice0.lean ====
section
/-! SUPPORT. The model's own tests and the witnesses of the statements. Every expected result is the spec's: the source's worked examples (95_test_vectors.md
section 1), the derived vectors of its sections 2 and 3, and the encodings of 30_encoding.md. -/

namespace Sys2Proof.Tests

open Sys2Proof.Machine Sys2Proof.Stated

/-! ## WellFormed: what the checks refuse -/

theorem test_region_empty_refused : Region.wellFormed ⟨0x1000, 0⟩ = false := by decide

theorem test_region_past_the_bus_refused : Region.wellFormed ⟨0xFFFF, 2⟩ = false := by decide

theorem test_region_up_to_the_end_accepted : Region.wellFormed ⟨0xFF00, 0x100⟩ = true := by decide

theorem test_backing_with_an_empty_region_refused : Backing.wellFormed (.regions [⟨0, 1⟩, ⟨5, 0⟩]) = false := by decide

theorem test_manager_with_a_region_past_the_bus_refused :
    Manager.wellFormed { readable := .all, writable := .all, scripted := .regions [⟨0xFF00, 0x101⟩] } = false := by decide

theorem test_config_with_free_unassigned_opcodes_refused :
    Config.wellFormed { defaultConfig with unassignedCycles := 0 } = false := by decide

theorem test_default_config_accepted : defaultConfig.wellFormed = true := by decide

/-- 20_memory.md R79. -/
theorem test_default_cartridge_ends_at_4096 :
    defaultCartridge.wellFormed = true ∧ (∀ b ∈ [defaultCartridge.readable, defaultCartridge.writable],
      backs b 0x0FFF = true ∧ backs b 0x1000 = false) ∧ backs defaultCartridge.scripted 0x1000 = false := by decide

/-! ## Decoding: words written out from 30_encoding.md R105 to R108 -/

theorem test_lda_izx_decodes : decode [0b10100001, 0b00100000] = .ok (.ldaIzx 0x20, []) := rfl

theorem test_sta_aby_decodes : decode [0b10011001, 0b00110100, 0b00010010] = .ok (.staAby 0x1234, []) := rfl

theorem test_txs_decodes : decode [0b10011010] = .ok (.txs, []) := rfl

theorem test_adc_izy_decodes : decode [0b01110001, 0b10000000] = .ok (.adcIzy 0x80, []) := rfl

theorem test_sbc_imm_decodes : decode [0b11101001, 0b00000001] = .ok (.sbcImm 0x01, []) := rfl

theorem test_cpx_abs_decodes : decode [0b11101100, 0b11111111, 0b00000000] = .ok (.cpxAbs 0x00FF, []) := rfl

theorem test_dec_abx_decodes : decode [0b11011110, 0b00000001, 0b10000000] = .ok (.decAbx 0x8001, []) := rfl

theorem test_eor_zpx_decodes : decode [0b01010101, 0b00001111] = .ok (.eorZpx 0x0F, []) := rfl

theorem test_bit_zp_decodes : decode [0b00100100, 0b00110011] = .ok (.bitZp 0x33, []) := rfl

theorem test_ror_acc_decodes : decode [0b01101010] = .ok (.rorAcc, []) := rfl

theorem test_jmp_ind_decodes : decode [0b01101100, 0b11111111, 0b00000010] = .ok (.jmpInd 0x02FF, []) := rfl

theorem test_rti_decodes : decode [0b01000000] = .ok (.rti, []) := rfl

theorem test_bvs_decodes : decode [0b01110000, 0b11111110] = .ok (.bvs 0xFE, []) := rfl

theorem test_plp_decodes : decode [0b00101000] = .ok (.plp, []) := rfl

theorem test_clv_decodes : decode [0b10111000] = .ok (.clv, []) := rfl

theorem test_unassigned_ff_decodes : decode [0b11111111] = .ok (.fxFF, []) := rfl

/-- The source's label-fixup program (95_test_vectors.md section 1.2), its bytes in decimal as the source gives them. -/
theorem test_source_program_encodes :
    (encode (.ldxImm 0) ++ encode (.jsr 11) ++ encode .dex ++ encode (.bne 0xFA) ++ encode (.jmpAbs 12) ++ encode .rts ++ encode .brk) =
      [162, 0, 32, 11, 0, 202, 208, 250, 76, 12, 0, 96, 0] := by decide

theorem test_missing_operand_byte_refused : decode [0xAD, 0x34] = .error (.missingOperand 0xAD) := rfl

theorem test_no_byte_refused : decode [] = .error .noBytes := rfl

theorem test_table_word_of_a_three_byte_row : decodeTableWord 24 0x1234AD = some (.ldaAbs 0x1234) := rfl

theorem test_fetch_word_runs : ∃ t, step (State.reset.withFetchWord 16 0x80A9) = .next t ∧ t.cpu.a = 0x80 := ⟨_, rfl, rfl⟩

/-! ## One step: the vectors of 95_test_vectors.md sections 1 and 2 -/

/-- Register values, in the notation of the vectors: what is not named is 0, and SP is 0xFF. -/
def regs (ip : Word) (a : Byte := 0) (x : Byte := 0) (y : Byte := 0) (sp : Byte := 0xFF) (p : Byte := 0) (tick : Nat := 0) : Cpu :=
  { a, x, y, sp, p, ip, nip := ip, tick }

/-- Memory with these cells written. -/
def written (cells : List Host.Cell) (m : Memory) : Memory := cells.foldl (fun m c => m.write c.1 c.2) m

/-- A machine with these registers and cells. -/
def machine (cfg : Config) (cpu : Cpu) (cells : List Host.Cell) : State :=
  { State.reset with cpu := cpu, cfg := cfg, mem := written cells [] }

/-- One step from `before` gives `after`, with the cells `stores` written and nothing else of memory. -/
def stepGives (cfg : Config) (before : Cpu) (cells : List Host.Cell) (after : Cpu) (stores : List Host.Cell) : Bool :=
  match step (machine cfg before cells) with
  | .next t => t.cpu == after && t.mem == written stores (machine cfg before cells).mem
  | _ => false

theorem test_ldx_imm :
    stepGives defaultConfig (regs 0x0000 (x := 0x55) (p := 0x80)) [(0x0000, 0xA2), (0x0001, 0x00)]
      (regs 0x0002 (p := 0x02) (tick := 2)) [] := by decide

theorem test_lda_imm :
    stepGives defaultConfig (regs 0x0200 (p := 0x02)) [(0x0200, 0xA9), (0x0201, 0x80)]
      (regs 0x0202 (a := 0x80) (p := 0x80) (tick := 2)) [] := by decide

theorem test_lda_zpx_past_zero_page :
    stepGives defaultConfig (regs 0x0200 (x := 0x20)) [(0x0200, 0xB5), (0x0201, 0xF0), (0x0010, 0xBB), (0x0110, 0xAA)]
      (regs 0x0202 (a := 0xAA) (x := 0x20) (p := 0x80) (tick := 4)) [] := by decide

theorem test_lda_zpx_wraps_when_parameter_says :
    stepGives { defaultConfig with zpIndexWrap := true } (regs 0x0200 (x := 0x20)) [(0x0200, 0xB5), (0x0201, 0xF0), (0x0010, 0xBB), (0x0110, 0xAA)]
      (regs 0x0202 (a := 0xBB) (x := 0x20) (p := 0x80) (tick := 4)) [] := by decide

theorem test_lda_abx_wraps_address_space :
    stepGives defaultConfig (regs 0x0200 (x := 0x02)) [(0x0200, 0xBD), (0x0201, 0xFF), (0x0202, 0xFF), (0x0001, 0x44)]
      (regs 0x0203 (a := 0x44) (x := 0x02) (tick := 5)) [] := by decide

theorem test_lda_izx_pointer_wraps :
    stepGives defaultConfig (regs 0x0200 (x := 0x20)) [(0x0200, 0xA1), (0x0201, 0xF0), (0x0010, 0x00), (0x0011, 0x03), (0x0300, 0x5B)]
      (regs 0x0202 (a := 0x5B) (x := 0x20) (tick := 6)) [] := by decide

theorem test_lda_izy_crosses :
    stepGives defaultConfig (regs 0x0200 (y := 0x10)) [(0x0200, 0xB1), (0x0201, 0x20), (0x0020, 0xF8), (0x0021, 0x03), (0x0408, 0x77)]
      (regs 0x0202 (a := 0x77) (y := 0x10) (tick := 6)) [] := by decide

theorem test_lda_izy_pointer_high_byte_next_page :
    stepGives defaultConfig (regs 0x0200 (y := 0x01)) [(0x0200, 0xB1), (0x0201, 0xFF), (0x0000, 0x09), (0x00FF, 0x00), (0x0100, 0x05), (0x0501, 0x88), (0x0901, 0x99)]
      (regs 0x0202 (a := 0x88) (y := 0x01) (p := 0x80) (tick := 5)) [] := by decide

theorem test_lda_izy_pointer_high_byte_wraps :
    stepGives { defaultConfig with ptrHiWrap := true } (regs 0x0200 (y := 0x01)) [(0x0200, 0xB1), (0x0201, 0xFF), (0x0000, 0x09), (0x00FF, 0x00), (0x0100, 0x05), (0x0501, 0x88), (0x0901, 0x99)]
      (regs 0x0202 (a := 0x99) (y := 0x01) (p := 0x80) (tick := 5)) [] := by decide

theorem test_ldx_zpy :
    stepGives defaultConfig (regs 0x0200 (y := 0x03)) [(0x0200, 0xB6), (0x0201, 0x10), (0x0013, 0x80)]
      (regs 0x0202 (x := 0x80) (y := 0x03) (p := 0x80) (tick := 4)) [] := by decide

theorem test_ldy_abx :
    stepGives defaultConfig (regs 0x0200 (x := 0x01)) [(0x0200, 0xBC), (0x0201, 0x00), (0x0202, 0x20), (0x2001, 0x7E)]
      (regs 0x0203 (x := 0x01) (y := 0x7E) (tick := 4)) [] := by decide

theorem test_sta_zp_keeps_flags :
    stepGives defaultConfig (regs 0x0200 (a := 0x80) (p := 0x02)) [(0x0200, 0x85), (0x0201, 0x10)]
      (regs 0x0202 (a := 0x80) (p := 0x02) (tick := 3)) [(0x0010, 0x80)] := by decide

theorem test_sta_abx_no_penalty :
    stepGives defaultConfig (regs 0x0200 (a := 0x42) (x := 0x01)) [(0x0200, 0x9D), (0x0201, 0xFF), (0x0202, 0x12)]
      (regs 0x0203 (a := 0x42) (x := 0x01) (tick := 5)) [(0x1300, 0x42)] := by decide

theorem test_sta_izy_no_penalty :
    stepGives defaultConfig (regs 0x0200 (a := 0x45) (y := 0x01)) [(0x0200, 0x91), (0x0201, 0x20), (0x0020, 0xFF), (0x0021, 0x02)]
      (regs 0x0202 (a := 0x45) (y := 0x01) (tick := 6)) [(0x0300, 0x45)] := by decide

theorem test_stx_zpy :
    stepGives defaultConfig (regs 0x0200 (x := 0x46) (y := 0x02)) [(0x0200, 0x96), (0x0201, 0x10)]
      (regs 0x0202 (x := 0x46) (y := 0x02) (tick := 4)) [(0x0012, 0x46)] := by decide

theorem test_sty_zpx :
    stepGives defaultConfig (regs 0x0200 (x := 0x03) (y := 0x47)) [(0x0200, 0x94), (0x0201, 0x10)]
      (regs 0x0202 (x := 0x03) (y := 0x47) (tick := 4)) [(0x0013, 0x47)] := by decide

theorem test_tax :
    stepGives defaultConfig (regs 0x0200 (a := 0x80)) [(0x0200, 0xAA)]
      (regs 0x0201 (a := 0x80) (x := 0x80) (p := 0x80) (tick := 2)) [] := by decide

theorem test_tay :
    stepGives defaultConfig (regs 0x0200 (y := 0x55) (p := 0x80)) [(0x0200, 0xA8)]
      (regs 0x0201 (p := 0x02) (tick := 2)) [] := by decide

theorem test_txa :
    stepGives defaultConfig (regs 0x0200 (x := 0x7F) (p := 0x82)) [(0x0200, 0x8A)]
      (regs 0x0201 (a := 0x7F) (x := 0x7F) (tick := 2)) [] := by decide

theorem test_tya :
    stepGives defaultConfig (regs 0x0200 (y := 0xFF)) [(0x0200, 0x98)]
      (regs 0x0201 (a := 0xFF) (y := 0xFF) (p := 0x80) (tick := 2)) [] := by decide

theorem test_tsx :
    stepGives defaultConfig (regs 0x0200 (sp := 0xFD)) [(0x0200, 0xBA)]
      (regs 0x0201 (x := 0xFD) (sp := 0xFD) (p := 0x80) (tick := 2)) [] := by decide

theorem test_txs_sets_nz :
    stepGives { defaultConfig with txsSetsNZ := true } (regs 0x0200 (p := 0x80)) [(0x0200, 0x9A)]
      (regs 0x0201 (sp := 0x00) (p := 0x02) (tick := 2)) [] := by decide

theorem test_txs_keeps_p :
    stepGives { defaultConfig with txsSetsNZ := false } (regs 0x0200 (p := 0x80)) [(0x0200, 0x9A)]
      (regs 0x0201 (sp := 0x00) (p := 0x80) (tick := 2)) [] := by decide

theorem test_adc_overflow :
    stepGives defaultConfig (regs 0x0200 (a := 0x40)) [(0x0200, 0x69), (0x0201, 0x40)]
      (regs 0x0202 (a := 0x80) (p := 0xC0) (tick := 2)) [] := by decide

theorem test_adc_source_overflow_formula :
    stepGives defaultConfig (regs 0x0200 (a := 0x10)) [(0x0200, 0x69), (0x0201, 0x90)]
      (regs 0x0202 (a := 0xA0) (p := 0xC0) (tick := 2)) [] := by decide

theorem test_adc_decimal :
    stepGives defaultConfig (regs 0x0200 (a := 0x10) (p := 0x08)) [(0x0200, 0x65), (0x0201, 0x10), (0x0010, 0x15)]
      (regs 0x0202 (a := 0x25) (p := 0x08) (tick := 3)) [] := by decide

theorem test_adc_decimal_carry_and_overflow :
    stepGives defaultConfig (regs 0x0200 (a := 0x99) (p := 0x09)) [(0x0200, 0x69), (0x0201, 0x99)]
      (regs 0x0202 (a := 0x99) (p := 0xC9) (tick := 2)) [] := by decide

theorem test_adc_decimal_invalid_digits :
    stepGives defaultConfig (regs 0x0200 (a := 0x1A) (p := 0x08)) [(0x0200, 0x69), (0x0201, 0x0F)]
      (regs 0x0202 (a := 0x15) (p := 0x08) (tick := 2)) [] := by decide

theorem test_adc_decimal_v_unchanged :
    stepGives { defaultConfig with decVRule := .unchanged } (regs 0x0200 (a := 0x80) (p := 0x08)) [(0x0200, 0x69), (0x0201, 0x50)]
      (regs 0x0202 (a := 0x30) (p := 0x09) (tick := 2)) [] := by decide

theorem test_sbc_source_overflow_formula :
    stepGives defaultConfig (regs 0x0200 (p := 0x01)) [(0x0200, 0xE9), (0x0201, 0x01)]
      (regs 0x0202 (a := 0xFF) (p := 0xC0) (tick := 2)) [] := by decide

theorem test_sbc_borrow_in :
    stepGives defaultConfig (regs 0x0200 (a := 0x10)) [(0x0200, 0xE9), (0x0201, 0x05)]
      (regs 0x0202 (a := 0x0A) (p := 0x01) (tick := 2)) [] := by decide

theorem test_cmp_ignores_decimal :
    stepGives defaultConfig (regs 0x0200 (a := 0x99) (p := 0x48)) [(0x0200, 0xC9), (0x0201, 0x99)]
      (regs 0x0202 (a := 0x99) (p := 0x4B) (tick := 2)) [] := by decide

theorem test_cmp_less :
    stepGives defaultConfig (regs 0x0200 (a := 0x10) (p := 0x01)) [(0x0200, 0xC9), (0x0201, 0x20)]
      (regs 0x0202 (a := 0x10) (p := 0x80) (tick := 2)) [] := by decide

theorem test_cpx_zp :
    stepGives defaultConfig (regs 0x0200 (x := 0x04)) [(0x0200, 0xE4), (0x0201, 0x10), (0x0010, 0x05)]
      (regs 0x0202 (x := 0x04) (p := 0x80) (tick := 3)) [] := by decide

theorem test_cpy_imm :
    stepGives defaultConfig (regs 0x0200 (y := 0xFF)) [(0x0200, 0xC0), (0x0201, 0x01)]
      (regs 0x0202 (y := 0xFF) (p := 0x81) (tick := 2)) [] := by decide

theorem test_inc_zp_wraps :
    stepGives defaultConfig (regs 0x0200 (p := 0x01)) [(0x0200, 0xE6), (0x0201, 0x10), (0x0010, 0xFF)]
      (regs 0x0202 (p := 0x03) (tick := 5)) [(0x0010, 0x00)] := by decide

theorem test_inc_abx :
    stepGives defaultConfig (regs 0x0200 (x := 0x20)) [(0x0200, 0xFE), (0x0201, 0xF0), (0x0202, 0x12), (0x1310, 0x7F)]
      (regs 0x0203 (x := 0x20) (p := 0x80) (tick := 7)) [(0x1310, 0x80)] := by decide

theorem test_dec_zp_wraps :
    stepGives defaultConfig (regs 0x0200) [(0x0200, 0xC6), (0x0201, 0x10), (0x0010, 0x00)]
      (regs 0x0202 (p := 0x80) (tick := 5)) [(0x0010, 0xFF)] := by decide

theorem test_inx :
    stepGives defaultConfig (regs 0x0200 (x := 0xFF)) [(0x0200, 0xE8)]
      (regs 0x0201 (p := 0x02) (tick := 2)) [] := by decide

theorem test_iny :
    stepGives defaultConfig (regs 0x0200 (y := 0x7F)) [(0x0200, 0xC8)]
      (regs 0x0201 (y := 0x80) (p := 0x80) (tick := 2)) [] := by decide

theorem test_dex :
    stepGives defaultConfig (regs 0x0200 (x := 0x01)) [(0x0200, 0xCA)]
      (regs 0x0201 (p := 0x02) (tick := 2)) [] := by decide

theorem test_dey :
    stepGives defaultConfig (regs 0x0200) [(0x0200, 0x88)]
      (regs 0x0201 (y := 0xFF) (p := 0x80) (tick := 2)) [] := by decide

theorem test_and_imm :
    stepGives defaultConfig (regs 0x0200 (a := 0xF0)) [(0x0200, 0x29), (0x0201, 0x3C)]
      (regs 0x0202 (a := 0x30) (tick := 2)) [] := by decide

theorem test_ora_aby_crosses :
    stepGives defaultConfig (regs 0x0200 (y := 0x01)) [(0x0200, 0x19), (0x0201, 0xFF), (0x0202, 0x10), (0x1100, 0x01)]
      (regs 0x0203 (a := 0x01) (y := 0x01) (tick := 5)) [] := by decide

theorem test_eor_izx :
    stepGives defaultConfig (regs 0x0200 (a := 0xF0) (x := 0x02)) [(0x0200, 0x41), (0x0201, 0x10), (0x0012, 0x00), (0x0013, 0x04), (0x0400, 0x0F)]
      (regs 0x0202 (a := 0xFF) (x := 0x02) (p := 0x80) (tick := 6)) [] := by decide

theorem test_bit_zp :
    stepGives defaultConfig (regs 0x0200 (a := 0x01)) [(0x0200, 0x24), (0x0201, 0x80), (0x0080, 0xC0)]
      (regs 0x0202 (a := 0x01) (p := 0xC2) (tick := 3)) [] := by decide

theorem test_bit_abs_clears :
    stepGives defaultConfig (regs 0x0200 (a := 0x01) (p := 0xC2)) [(0x0200, 0x2C), (0x0201, 0x00), (0x0202, 0x03), (0x0300, 0x01)]
      (regs 0x0203 (a := 0x01) (tick := 4)) [] := by decide

theorem test_asl_acc :
    stepGives defaultConfig (regs 0x0200 (a := 0x80)) [(0x0200, 0x0A)]
      (regs 0x0201 (p := 0x03) (tick := 2)) [] := by decide

theorem test_asl_zp :
    stepGives defaultConfig (regs 0x0200) [(0x0200, 0x06), (0x0201, 0x10), (0x0010, 0xC0)]
      (regs 0x0202 (p := 0x81) (tick := 5)) [(0x0010, 0x80)] := by decide

theorem test_lsr_acc :
    stepGives defaultConfig (regs 0x0200 (a := 0x01)) [(0x0200, 0x4A)]
      (regs 0x0201 (p := 0x03) (tick := 2)) [] := by decide

theorem test_lsr_abs :
    stepGives defaultConfig (regs 0x0200) [(0x0200, 0x4E), (0x0201, 0x00), (0x0202, 0x03), (0x0300, 0x03)]
      (regs 0x0203 (p := 0x01) (tick := 6)) [(0x0300, 0x01)] := by decide

theorem test_rol_acc :
    stepGives defaultConfig (regs 0x0200 (a := 0x80) (p := 0x01)) [(0x0200, 0x2A)]
      (regs 0x0201 (a := 0x01) (p := 0x01) (tick := 2)) [] := by decide

theorem test_rol_zpx :
    stepGives defaultConfig (regs 0x0200 (x := 0x01)) [(0x0200, 0x36), (0x0201, 0x10), (0x0011, 0x40)]
      (regs 0x0202 (x := 0x01) (p := 0x80) (tick := 6)) [(0x0011, 0x80)] := by decide

theorem test_ror_acc :
    stepGives defaultConfig (regs 0x0200 (p := 0x01)) [(0x0200, 0x6A)]
      (regs 0x0201 (a := 0x80) (p := 0x80) (tick := 2)) [] := by decide

theorem test_ror_abx :
    stepGives defaultConfig (regs 0x0200 (x := 0x01) (p := 0x01)) [(0x0200, 0x7E), (0x0201, 0xFF), (0x0202, 0x02), (0x0300, 0x02)]
      (regs 0x0203 (x := 0x01) (p := 0x80) (tick := 7)) [(0x0300, 0x81)] := by decide

theorem test_jmp_abs :
    stepGives defaultConfig (regs 0x0008) [(0x0008, 0x4C), (0x0009, 0x0C), (0x000A, 0x00)]
      (regs 0x000C (tick := 3)) [] := by decide

theorem test_jmp_ind_next_page :
    stepGives defaultConfig (regs 0x0200) [(0x0200, 0x6C), (0x0201, 0xFF), (0x0202, 0x02), (0x0200, 0x6C), (0x02FF, 0x34), (0x0300, 0x12)]
      (regs 0x1234 (tick := 5)) [] := by decide

theorem test_jmp_ind_page_bug :
    stepGives { defaultConfig with jmpIndPageBug := true } (regs 0x0200) [(0x0200, 0x6C), (0x0201, 0xFF), (0x0202, 0x02), (0x02FF, 0x34), (0x0300, 0x12)]
      (regs 0x6C34 (tick := 5)) [] := by decide

theorem test_jsr :
    stepGives defaultConfig (regs 0x0002) [(0x0002, 0x20), (0x0003, 0x0B), (0x0004, 0x00)]
      (regs 0x000B (sp := 0xFD) (tick := 6)) [(0x01FF, 0x00), (0x01FE, 0x04)] := by decide

theorem test_jsr_stack_wraps :
    stepGives defaultConfig (regs 0x12FE (sp := 0x00)) [(0x12FE, 0x20), (0x12FF, 0x00), (0x1300, 0x30)]
      (regs 0x3000 (sp := 0xFE) (tick := 6)) [(0x0100, 0x13), (0x01FF, 0x00)] := by decide

theorem test_rts :
    stepGives defaultConfig (regs 0x000B (sp := 0xFD)) [(0x000B, 0x60), (0x01FE, 0x04), (0x01FF, 0x00)]
      (regs 0x0005 (tick := 6)) [] := by decide

theorem test_rts_wraps :
    stepGives defaultConfig (regs 0x0200 (sp := 0xFD)) [(0x0200, 0x60), (0x01FE, 0xFF), (0x01FF, 0xFF)]
      (regs 0x0000 (tick := 6)) [] := by decide

theorem test_rti_loads_all_of_p :
    stepGives defaultConfig (regs 0x0200 (sp := 0xFC) (p := 0xC3)) [(0x0200, 0x40), (0x01FD, 0x30), (0x01FE, 0x00), (0x01FF, 0x03)]
      (regs 0x0300 (p := 0x30) (tick := 6)) [] := by decide

theorem test_brk_stepped :
    stepGives defaultConfig (regs 0x000C (p := 0x02)) [(0x000C, 0x00)]
      (regs 0x000D (p := 0x12) (tick := 7)) [] := by decide

theorem test_nop :
    stepGives defaultConfig (regs 0x0200 (p := 0xC3)) [(0x0200, 0xEA)]
      (regs 0x0201 (p := 0xC3) (tick := 2)) [] := by decide

theorem test_bne_back :
    stepGives defaultConfig (regs 0x0006) [(0x0006, 0xD0), (0x0007, 0xFA)]
      (regs 0x0002 (tick := 3)) [] := by decide

theorem test_beq_taken :
    stepGives defaultConfig (regs 0x0000 (p := 0x02)) [(0x0000, 0xF0), (0x0001, 0x00)]
      (regs 0x0002 (p := 0x02) (tick := 3)) [] := by decide

theorem test_bpl_taken :
    stepGives defaultConfig (regs 0x0010) [(0x0010, 0x10), (0x0011, 0x05)]
      (regs 0x0017 (tick := 3)) [] := by decide

theorem test_bmi_not_taken :
    stepGives defaultConfig (regs 0x0010) [(0x0010, 0x30), (0x0011, 0x05)]
      (regs 0x0012 (tick := 2)) [] := by decide

theorem test_bvc_across_page :
    stepGives defaultConfig (regs 0x00F0) [(0x00F0, 0x50), (0x00F1, 0x20)]
      (regs 0x0112 (tick := 4)) [] := by decide

theorem test_bvs_to_itself :
    stepGives defaultConfig (regs 0x0200 (p := 0x40)) [(0x0200, 0x70), (0x0201, 0xFE)]
      (regs 0x0200 (p := 0x40) (tick := 3)) [] := by decide

theorem test_bcc_not_taken :
    stepGives defaultConfig (regs 0x0200 (p := 0x01)) [(0x0200, 0x90), (0x0201, 0x10)]
      (regs 0x0202 (p := 0x01) (tick := 2)) [] := by decide

theorem test_bcs_straddles_page :
    stepGives defaultConfig (regs 0x00FE (p := 0x01)) [(0x00FE, 0xB0), (0x00FF, 0x10)]
      (regs 0x0110 (p := 0x01) (tick := 3)) [] := by decide

theorem test_bne_wraps_address_space :
    stepGives defaultConfig (regs 0xFFFD) [(0xFFFD, 0xD0), (0xFFFE, 0x10)]
      (regs 0x000F (tick := 4)) [] := by decide

theorem test_pha_wraps :
    stepGives defaultConfig (regs 0x0200 (a := 0x43) (sp := 0x00)) [(0x0200, 0x48)]
      (regs 0x0201 (a := 0x43) (tick := 3)) [(0x0100, 0x43)] := by decide

theorem test_php_as_stored :
    stepGives defaultConfig (regs 0x0200 (sp := 0xFE) (p := 0x30)) [(0x0200, 0x08)]
      (regs 0x0201 (sp := 0xFD) (p := 0x30) (tick := 3)) [(0x01FE, 0x30)] := by decide

theorem test_pla_wraps :
    stepGives defaultConfig (regs 0x0200) [(0x0200, 0x68), (0x0100, 0x80)]
      (regs 0x0201 (a := 0x80) (sp := 0x00) (p := 0x80) (tick := 4)) [] := by decide

theorem test_plp_all_bits :
    stepGives defaultConfig (regs 0x0200 (sp := 0xFE)) [(0x0200, 0x28), (0x01FF, 0xFF)]
      (regs 0x0201 (p := 0xFF) (tick := 4)) [] := by decide

theorem test_clc :
    stepGives defaultConfig (regs 0x0200 (p := 0xFF)) [(0x0200, 0x18)]
      (regs 0x0201 (p := 0xFE) (tick := 2)) [] := by decide

theorem test_sec :
    stepGives defaultConfig (regs 0x0200) [(0x0200, 0x38)]
      (regs 0x0201 (p := 0x01) (tick := 2)) [] := by decide

theorem test_cli :
    stepGives defaultConfig (regs 0x0200 (p := 0xFF)) [(0x0200, 0x58)]
      (regs 0x0201 (p := 0xFB) (tick := 2)) [] := by decide

theorem test_sei :
    stepGives defaultConfig (regs 0x0200) [(0x0200, 0x78)]
      (regs 0x0201 (p := 0x04) (tick := 2)) [] := by decide

theorem test_cld :
    stepGives defaultConfig (regs 0x0200 (p := 0xFF)) [(0x0200, 0xD8)]
      (regs 0x0201 (p := 0xF7) (tick := 2)) [] := by decide

theorem test_sed :
    stepGives defaultConfig (regs 0x0200) [(0x0200, 0xF8)]
      (regs 0x0201 (p := 0x08) (tick := 2)) [] := by decide

theorem test_clv :
    stepGives defaultConfig (regs 0x0200 (p := 0xFF)) [(0x0200, 0xB8)]
      (regs 0x0201 (p := 0xBF) (tick := 2)) [] := by decide

/-- Decimal subtraction (95_test_vectors.md section 2.2): results and carries; V is not tested, being free. -/
theorem test_sbc_decimal :
    subDecimal 0x25 0x15 true = (0x10, true) ∧ subDecimal 0x10 0x15 true = (0x95, false) ∧ subDecimal 0x00 0x00 false = (0x99, false) := by
  decide

/-! ## Stops, diagnostics, runs (95_test_vectors.md sections 2.6 to 2.8) -/

/-- A memory manager that is plain storage at these addresses and refuses every other. -/
def storage (b : Backing) : Manager := { readable := b, writable := b, scripted := .none }

/-- A machine whose memory manager answers every address but those from `hole` on, `n` of them. -/
def withHole (hole n : Nat) : Config := { defaultConfig with manager := storage (.regions [⟨0, hole⟩, ⟨hole + n, 65536 - hole - n⟩]) }

/-- A machine that also has these calls pending. -/
def calling (l : List Call) (s : State) : State := { s with schedule := l }

theorem test_unassigned_emits_its_opcode :
    ∃ t, step (machine defaultConfig (regs 0x0010 (a := 0x11) (p := 0xC3)) [(0x0010, 0xEB)]) = .next t ∧
      t.cpu = regs 0x0011 (a := 0x11) (p := 0xC3) (tick := 2) ∧ t.events = [.diagnostic 0xEB] := ⟨_, rfl, rfl, rfl⟩

theorem test_data_fault_names_its_address :
    step (machine (withHole 0x1234 1) (regs 0x0200) [(0x0200, 0xAD), (0x0201, 0x34), (0x0202, 0x12)]) = .fault (.busFault 0x1234) := rfl

theorem test_push_fault_names_its_address :
    step (machine (withHole 0x01FF 1) (regs 0x0200) [(0x0200, 0x20), (0x0201, 0x00), (0x0202, 0x30)]) = .fault (.busFault 0x01FF) := rfl

theorem test_pointer_fault_names_its_address :
    step (machine (withHole 0x0021 1) (regs 0x0200) [(0x0200, 0x91), (0x0201, 0x20), (0x0020, 0x00)]) = .fault (.busFault 0x0021) := rfl

theorem test_run_to_break_does_not_execute_the_break :
    ∃ t, step (calling [.runToBreak (some 0x0200)] (machine defaultConfig (regs 0) [(0x0200, 0x00)])) = .next t ∧
      t.cpu.ip = 0x0200 ∧ t.cpu.p = 0x00 ∧ t.cpu.tick = 0 ∧ t.events = [.breakReached] := ⟨_, rfl, rfl, rfl, rfl, rfl⟩

theorem test_run_to_break_tests_opcodes_only :
    ∃ t, step (calling [.runToBreak (some 0x0200)] (machine defaultConfig (regs 0) [(0x0200, 0xA9), (0x0201, 0x00), (0x0202, 0x00)])) =
        .next t ∧ t.cpu.ip = 0x0202 ∧ t.cpu.tick = 2 ∧ t.schedule = [.continueRun none] := ⟨_, rfl, rfl, rfl, rfl⟩

/-- 10_state.md R28. -/
theorem test_snapshot_has_the_seven_items :
    ∃ t, step (calling [.snapshot] (machine defaultConfig (regs 0x0200 (a := 1) (x := 2) (y := 3) (sp := 4) (p := 5) (tick := 6)) [])) =
      .next t ∧ t.events = [.snapshot { a := 1, x := 2, y := 3, sp := 4, p := 5, ip := 0x0200, tick := 6 }] := ⟨_, rfl, rfl⟩

/-! ## Memory managers that are not plain storage (20_memory.md R70, R76, D6, D7) -/

/-- A machine with this memory manager and these answers still to come. -/
def managed (m : Manager) (script : List Answer) (cpu : Cpu) (cells : List Host.Cell) : State :=
  (machine { defaultConfig with manager := m } cpu cells).withBus { script, asked := [] }

/-- A machine on a test double: every access is the script's. -/
def double (script : List Answer) (cpu : Cpu) : State :=
  managed { readable := .none, writable := .none, scripted := .all } script cpu []

/-- A memory manager that refuses writes. -/
def readOnly : Manager := { readable := .all, writable := .none, scripted := .none }

theorem test_read_only_memory_refuses_a_store :
    step (managed readOnly [] (regs 0x0200) [(0x0200, 0x85), (0x0201, 0x10)]) = .fault (.busFault 0x0010) := rfl

theorem test_read_only_memory_is_read :
    ∃ t, step (managed readOnly [] (regs 0x0200) [(0x0200, 0xA5), (0x0201, 0x10), (0x0010, 0x7F)]) = .next t ∧ t.cpu.a = 0x7F :=
  ⟨_, rfl, rfl⟩

/-- The transactions of a read-modify-write, the latest first: one data read and one data write, no dummy access. -/
theorem test_double_sees_each_access_once :
    ∃ t, step (double [.accepts 0xEE, .accepts 0x34, .accepts 0x12, .accepts 0x7F, .accepts 0x00] (regs 0x0200)) = .next t ∧
      t.bus = { script := [], asked :=
        [.write 0x1234 0x80, .read 0x1234, .read 0x0202, .read 0x0201, .read 0x0200] } ∧ t.mem = [] := ⟨_, rfl, rfl, rfl⟩

theorem test_double_refuses_a_push :
    step (double [.accepts 0x48, .refuses] (regs 0x0200)) = .fault (.busFault 0x01FF) := rfl

theorem test_double_without_an_answer_refuses :
    step (double [.accepts 0xA9] (regs 0x0200)) = .fault (.busFault 0x0201) := rfl

/-- The peek of a run-to-break is a read of its own (40_cpu_engine.md R152). -/
theorem test_run_to_break_reads_each_opcode_twice :
    ∃ t, step (calling [.runToBreak none] (double [.accepts 0xEA, .accepts 0xEA] (regs 0x0200))) = .next t ∧
      t.bus.asked = [.read 0x0200, .read 0x0200] ∧ t.cpu.ip = 0x0201 := ⟨_, rfl, rfl, rfl⟩

/-- A port over read-only memory: the store is the script's, the read there is storage's. -/
theorem test_port_takes_the_store :
    let port : Manager := { readable := .all, writable := .regions [⟨0, 0xF000⟩], scripted := .regions [⟨0xF000, 1⟩] }
    ∃ t, step (managed port [.accepts 0] (regs 0x0200 (a := 0x55)) [(0x0200, 0x8D), (0x0201, 0x00), (0x0202, 0xF0), (0xF000, 0x99)]) = .next t ∧
      t.bus.asked = [.write 0xF000 0x55] ∧ t.mem.read 0xF000 = 0x99 := ⟨_, rfl, rfl, rfl⟩

/-! ## The TIA (95_test_vectors.md section 3) -/

/-- Register writes from reset. -/
def wrote (ws : List (Nat × Byte)) : Tia := writeAll defaultConfig ws Tia.reset

/-- The columns where a test holds. -/
def columns (f : Fin 160 → Bool) : List Nat := ((List.finRange 160).filter f).map (·.val)

/-- Player 0 moved to a column. -/
def p0At (x : Fin 160) (t : Tia) : Tia := { t with p0 := { t.p0 with x := x } }

/-- The source's geometry example, double size (section 1.5). -/
theorem test_player_double_size :
    columns (p0At 42 (wrote [(0x04, 0x05), (0x1B, 0xA2)])).p0.drawn = [42, 43, 46, 47, 54, 55] := by decide

/-- The source's geometry example, quad size (section 1.5). -/
theorem test_player_quad_size :
    columns (p0At 42 (wrote [(0x04, 0x07), (0x1B, 0xA2)])).p0.drawn = [42, 43, 44, 45, 50, 51, 52, 53, 66, 67, 68, 69] := by
  decide

theorem test_player_three_medium :
    columns (p0At 42 (wrote [(0x04, 0x06), (0x1B, 0xA2)])).p0.drawn = [42, 44, 48, 74, 76, 80, 106, 108, 112] := by decide

theorem test_player_reflected :
    columns (p0At 42 (wrote [(0x04, 0x00), (0x1B, 0xA2), (0x0B, 0x08)])).p0.drawn = [43, 47, 49] := by decide

theorem test_player_cut_at_the_right_edge :
    columns (p0At 156 (wrote [(0x1B, 0xFF)])).p0.drawn = [156, 157, 158, 159] := by decide

theorem test_playfield_bits :
    columns (wrote [(0x0D, 0x10), (0x0E, 0x80), (0x0F, 0x01)]).pfOn =
      [0, 1, 2, 3, 16, 17, 18, 19, 48, 49, 50, 51, 80, 81, 82, 83, 96, 97, 98, 99, 128, 129, 130, 131] := by decide

theorem test_playfield_mirrored :
    columns (wrote [(0x0F, 0x80), (0x0A, 0x01)]).pfOn = [76, 77, 78, 79, 80, 81, 82, 83] := by decide

/-- The setup of section 3.4 at column 100: P0, P1 and the playfield on, under a CTRLPF value. -/
def priorityAt (ctrlpf : Byte) (c : Fin 160) : Byte :=
  (p0At 100 (wrote [(0x06, 0x44), (0x07, 0x88), (0x08, 0x0E), (0x09, 0x02), (0x0D, 0xF0), (0x0E, 0xFF), (0x0F, 0xFF),
    (0x1B, 0x80), (0x0A, ctrlpf)])).colourAt c

theorem test_player_over_playfield : priorityAt 0x00 100 = 0x44 ∧ priorityAt 0x00 20 = 0x0E := by decide

theorem test_playfield_over_player : priorityAt 0x04 100 = 0x0E := by decide

theorem test_score_mode_halves : priorityAt 0x02 20 = 0x44 ∧ priorityAt 0x02 99 = 0x88 ∧ priorityAt 0x06 100 = 0x88 := by
  decide

/-- RESP0 with the colour clock at a value. -/
def strobedAt (k : Fin 228) : Fin 160 := (({ Tia.reset with colorClock := k }).writeRegister defaultConfig 0x10 0).p0.x

theorem test_strobe_columns : strobedAt 67 = 0 ∧ strobedAt 69 = 1 ∧ strobedAt 110 = 42 ∧ strobedAt 227 = 159 := by decide

/-- HMP0 and HMOVE from a column. -/
def moved (dir : HmoveDir) (x : Fin 160) (v : Byte) : Fin 160 :=
  (writeAll { defaultConfig with hmoveDir := dir } [(0x20, v), (0x2A, 0)] (p0At x Tia.reset)).p0.x

theorem test_motion : moved .right 42 0x70 = 49 ∧ moved .right 3 0x80 = 0 ∧ moved .right 155 0x70 = 159 ∧ moved .left 42 0x70 = 35 ∧
    moved .right 42 0x7F = 49 := by decide

theorem test_tick_at_the_edges :
    ({ Tia.reset with colorClock := 67 }).nextClockTick.2 = false ∧ ({ Tia.reset with colorClock := 67 }).nextClockTick.1.colorClock = 68 ∧
      ({ Tia.reset with colorClock := 227 }).nextClockTick.2 = true ∧ ({ Tia.reset with colorClock := 227 }).nextClockTick.1.colorClock = 0 := by
  decide

theorem test_tick_writes_the_last_column :
    ({ wrote [(0x09, 0x1E)] with colorClock := 227 }).nextClockTick.1.scanline[159] = 0x1E := by decide

/-- The eight collision registers after the writes of section 3.8 and the tick of column 0, the only one where two objects meet. -/
def collisionsOf (e : Enables) : List Byte :=
  let t := { writeAll defaultConfig e.writes Tia.reset with colorClock := 68 }
  [0x30, 0x31, 0x32, 0x33, 0x34, 0x35, 0x36, 0x37].map (fun a => t.nextClockTick.1.readRegister a)

theorem test_collisions_all_on : collisionsOf ⟨true, true, true, true, true, true⟩ = [0xC0, 0xC0, 0xC0, 0xC0, 0xC0, 0xC0, 0x80, 0xC0] := by
  decide

theorem test_collisions_playfield_and_player :
    collisionsOf ⟨true, false, true, false, false, false⟩ = [0x00, 0x00, 0x80, 0x00, 0x00, 0x00, 0x00, 0x00] := by decide

/-! ## Witnesses: states and operands that meet the hypotheses of each statement -/

/-- The machine most witnesses use: every address answers, IP is 0x0200, SP is 0xFF. -/
def plain : State := machine defaultConfig (regs 0x0200) [(0x0000, 0x10), (0x0001, 0x20), (0x0200, 0xA9), (0x0201, 0x80)]

/-- A machine whose memory manager answers nothing. -/
def deaf : State := machine { defaultConfig with manager := storage .none } (regs 0x0200) []

/-- A machine whose memory manager reads everywhere and refuses every write. -/
def rom : State := managed readOnly [] (regs 0x0200) []

/-- A machine with one hole. -/
def holed (hole : Nat) (cpu : Cpu) : State := machine (withHole hole 1) cpu [(0x0000, 0x10), (0x0001, 0x20)]

/-- The byte at `a` is `v`, read from storage: the state stays. -/
abbrev Reads (a : Word) (v : Byte) (s : State) : Prop := busRead a s = .ok (v, s)

/-- The memory manager refuses a read of `a`. -/
abbrev ReadRefused (a : Word) (s : State) : Prop := busRead a s = .error (.busFault a)

/-- The memory manager refuses a write at `a`, whatever the byte. -/
abbrev WriteRefused (a : Word) (s : State) : Prop := ∀ v, busWrite a v s = .error (.busFault a)

theorem witness_DecodeInvertsEncode : (Instr.ldaAbs 0xFFFF).wellFormed = true := rfl

theorem witness_EncodeInvertsDecode : decode [0xAD, 0xFF, 0xFF, 0x00] = .ok (.ldaAbs 0xFFFF, [0x00]) := rfl

/-- IP on the last address, so that the operand byte is on the first; from storage, and from a script. -/
theorem witness_StepRunsDecodedInstruction :
    let s := machine defaultConfig (regs 0xFFFF) [(0xFFFF, 0xA9), (0x0000, 0x80)]
    decode [0xA9, 0x80] = .ok (.ldaImm 0x80, []) ∧ ReadsInTurn s.cpu.ip [0xA9, 0x80] s s ∧
      (∃ t, ReadsInTurn 0xFFFF [0xA9, 0x80] (double [.accepts 0xA9, .accepts 0x80] (regs 0xFFFF)) t) ∧
      s.schedule = [] ∧ (calling [.cpuStep] s).schedule = .cpuStep :: [] :=
  ⟨rfl, ⟨_, rfl, _, rfl, rfl⟩, ⟨_, _, rfl, _, rfl, rfl⟩, rfl, rfl⟩

/-- A three-byte instruction with each of its bytes refused. -/
theorem witness_FetchStopsAtFirstRefusedByte :
    let s := fun hole => machine (withHole hole 1) (regs 0x0200) [(0x0200, 0xAD), (0x0201, 0x00)]
    ReadRefused 0x0200 (s 0x0200) ∧
      (Reads 0x0200 0xAD (s 0x0201) ∧ 2 ≤ (formatOf 0xAD).size ∧ ReadRefused 0x0201 (s 0x0201)) ∧
      Reads 0x0200 0xAD (s 0x0202) ∧ (formatOf 0xAD).size = 3 ∧ Reads 0x0201 0x00 (s 0x0202) ∧ ReadRefused 0x0202 (s 0x0202) :=
  ⟨rfl, ⟨rfl, by decide, rfl⟩, rfl, rfl, rfl, rfl⟩

/-- Reads and writes at a storage address, at a scripted one answered, refused and without an answer, and at one that is neither. -/
theorem witness_BusTransactions :
    (Reads 0xFFFF 0xAA (machine defaultConfig (regs 0) [(0xFFFF, 0xAA)]) ∧ ∃ u, busWrite 0xFFFF 0xAA plain = .ok u) ∧
      (∃ u, busRead 0 (double [.accepts 0xAA] (regs 0)) = .ok (0xAA, u)) ∧
      (∃ u, busWrite 0 0xAA (double [.accepts 0] (regs 0)) = .ok u) ∧
      (ReadRefused 0 (double [.refuses] (regs 0)) ∧ WriteRefused 0 (double [] (regs 0))) ∧
      ReadRefused 0 deaf ∧ WriteRefused 0 deaf :=
  ⟨⟨rfl, _, rfl⟩, ⟨_, rfl⟩, ⟨_, rfl⟩, ⟨rfl, fun _ => rfl⟩, rfl, fun _ => rfl⟩

/-- Enough answers for any instruction: a NOP for a fetch, and bytes that carry every pointer off the zero page. -/
def talking : State := double (.replicate 8 (.accepts 0xEA)) (regs 0x0200)

/-- A step, and an instruction of each kind, on a test double that answers. -/
theorem witness_TransactionOrder :
    OnScript talking ∧ (∃ t, cpuStep talking = .next t) ∧
      ((⟨0xB1, .ldaIzy 0xFF, .mem (.izy 0xFF), 5⟩ : ReadRow) ∈ readRows 0xFF 0 ∧ ∃ t, exec (.ldaIzy 0xFF) talking = .next t) ∧
      ((⟨0xA9, .ldaImm 0xFF, .imm 0xFF, 2⟩ : ReadRow) ∈ readRows 0xFF 0 ∧ ∃ t, exec (.ldaImm 0xFF) talking = .next t) ∧
      ((⟨0x81, .staIzx 0xFF, .izx 0xFF, 6⟩ : MemRow) ∈ storeRows 0xFF 0 ∧ ∃ t, exec (.staIzx 0xFF) talking = .next t) ∧
      ((⟨0xE6, .incZp 0xFF, .zp 0xFF, 5⟩ : MemRow) ∈ modifyRows 0xFF 0 ∧ ∃ t, exec (.incZp 0xFF) talking = .next t) ∧
      (∀ i ∈ [Instr.jmpInd 0x02FF, .jsr 0, .rts, .rti, .pha, .plp], ∃ t, exec i talking = .next t) ∧
      Quiet (.bne 0) ∧ Quiet .fxFF ∧ ∀ i ∈ [Instr.bne 0, .fxFF], ∃ t, exec i talking = .next t := by
  refine ⟨rfl, ⟨_, rfl⟩, ⟨by simp [readRows, ldaRows], _, rfl⟩, ⟨by simp [readRows, ldaRows], _, rfl⟩,
    ⟨by simp [storeRows, staRows], _, rfl⟩, ⟨by simp [modifyRows, incRows], _, rfl⟩, ?_, .inl (by decide), ?_, ?_⟩
  · simpa using ⟨⟨_, rfl⟩, ⟨_, rfl⟩, ⟨_, rfl⟩, ⟨_, rfl⟩, ⟨_, rfl⟩, ⟨_, rfl⟩⟩
  · exact .inr (.inr (.inr (by decide)))
  · simpa using ⟨⟨_, rfl⟩, ⟨_, rfl⟩⟩

/-- A pointer at 0xFF, read at both settings of `PTR_HI_WRAP`, and each refused byte of one. -/
theorem witness_IndirectAddresses :
    let s := fun wrap => machine { defaultConfig with ptrHiWrap := wrap } (regs 0 (x := 0xFF)) [(0x0000, 0x10), (0x00FF, 0x20), (0x0100, 0x30)]
    (Reads 0x00FF 0x20 (s false) ∧ Reads 0x0100 0x30 (s false)) ∧ (Reads 0x00FF 0x20 (s true) ∧ Reads 0x0000 0x10 (s true)) ∧
      ReadRefused 0x00FF (holed 0x00FF (regs 0)) ∧ (∃ v, Reads 0x00FF v (holed 0x0100 (regs 0))) ∧
      ReadRefused 0x0100 (holed 0x0100 (regs 0)) := ⟨⟨rfl, rfl⟩, ⟨rfl, rfl⟩, rfl, ⟨_, rfl⟩, rfl⟩

theorem witness_OperandReads :
    (let s := machine defaultConfig (regs 0 (x := 1)) []
     (MemOperand.abx 0x00FF).address s = .ok ((0x0100, true), s)) ∧
      (∃ v, Reads 0x0100 v plain) ∧ ReadRefused 0x0100 deaf ∧
      (MemOperand.izx 0x00).address deaf = .error (.busFault 0x0000) := ⟨rfl, ⟨_, rfl⟩, rfl, rfl⟩

/-- SP at both ends of its range. -/
theorem witness_PushAndPull :
    let low := machine defaultConfig (regs 0 (sp := 0x00)) []
    (∃ u, busWrite (stackByte low low.cpu.sp) 0xAA low = .ok u) ∧ WriteRefused (stackByte deaf deaf.cpu.sp) deaf ∧
      (∃ v, Reads (stackByte plain 0x00) v plain) ∧ ReadRefused (stackByte deaf 0x00) deaf :=
  ⟨⟨_, rfl⟩, fun _ => rfl, ⟨_, rfl⟩, rfl⟩

/-- A row of the table, a state where its operand is read and one where it is refused, both meeting the premise. -/
def ReadWitness (rows : Byte → Word → List ReadRow) (pre : State → Prop) : Prop :=
  ∃ b w row s s', row ∈ rows b w ∧ (pre s ∧ ∃ m extra u, row.operand.read s = .ok ((m, extra), u)) ∧ pre s' ∧ ∃ f, row.operand.read s' = .error f

/-- A row of the table, and states where its pointer, a read there and a store there are answered, where the read is refused, and where the store is
refused and the read is not. -/
def MemWitness (rows : Byte → Word → List MemRow) : Prop :=
  ∃ b w row ea crossed, row ∈ rows b w ∧ (∀ s ∈ [plain, deaf, rom], row.operand.address s = .ok ((ea, crossed), s)) ∧
    (∃ v u, Reads ea v plain ∧ busWrite ea v plain = .ok u) ∧ ReadRefused ea deaf ∧ (∃ v, Reads ea v rom) ∧ WriteRefused ea rom

/-- The zero page has an address with any memory manager. -/
theorem zp_answered : ∀ s ∈ [plain, deaf, rom], (MemOperand.zp 0xFF).address s = .ok ((0x00FF, false), s) := fun _ _ => rfl

theorem witness_Loads :
    ReadWitness ldaRows (fun _ => True) ∧ ReadWitness ldxRows (fun _ => True) ∧ ReadWitness ldyRows (fun _ => True) :=
  ⟨⟨0xFF, 0, ⟨0xA5, .ldaZp 0xFF, .mem (.zp 0xFF), 3⟩, plain, deaf, by simp [ldaRows], ⟨trivial, _, _, _, rfl⟩, trivial, _, rfl⟩,
   ⟨0xFF, 0, ⟨0xA6, .ldxZp 0xFF, .mem (.zp 0xFF), 3⟩, plain, deaf, by simp [ldxRows], ⟨trivial, _, _, _, rfl⟩, trivial, _, rfl⟩,
   ⟨0xFF, 0, ⟨0xA4, .ldyZp 0xFF, .mem (.zp 0xFF), 3⟩, plain, deaf, by simp [ldyRows], ⟨trivial, _, _, _, rfl⟩, trivial, _, rfl⟩⟩

theorem witness_Stores : MemWitness staRows ∧ MemWitness stxRows ∧ MemWitness styRows ∧ (MemOperand.izy 0).address deaf = .error (.busFault 0) :=
  ⟨⟨0xFF, 0, ⟨0x85, .staZp 0xFF, .zp 0xFF, 3⟩, _, _, by simp [staRows], zp_answered, ⟨_, _, rfl, rfl⟩, rfl, ⟨_, rfl⟩, fun _ => rfl⟩,
   ⟨0xFF, 0, ⟨0x86, .stxZp 0xFF, .zp 0xFF, 3⟩, _, _, by simp [stxRows], zp_answered, ⟨_, _, rfl, rfl⟩, rfl, ⟨_, rfl⟩, fun _ => rfl⟩,
   ⟨0xFF, 0, ⟨0x84, .styZp 0xFF, .zp 0xFF, 3⟩, _, _, by simp [styRows], zp_answered, ⟨_, _, rfl, rfl⟩, rfl, ⟨_, rfl⟩, fun _ => rfl⟩, rfl⟩

/-- Both settings of `TXS_SETS_NZ`. -/
theorem witness_TransferToStackPointer :
    plain.cfg.txsSetsNZ = true ∧ (machine { defaultConfig with txsSetsNZ := false } (regs 0) []).cfg.txsSetsNZ = false := ⟨rfl, rfl⟩

/-- The same machine with D set, or its refusing twin. -/
def decimal (rule : DecVRule) (b : Backing) : State :=
  machine { defaultConfig with decVRule := rule, manager := storage b } (regs 0x0200 (p := 0x08)) [(0x00FF, 0x15)]

theorem witness_AdcBinary : ReadWitness adcRows (fun s => s.flag .d = false) :=
  ⟨0xFF, 0, ⟨0x65, .adcZp 0xFF, .mem (.zp 0xFF), 3⟩, plain, deaf, by simp [adcRows], ⟨rfl, _, _, _, rfl⟩, rfl, _, rfl⟩

/-- D set, under each of the three rules. -/
theorem witness_AdcDecimal : ∀ rule, ReadWitness adcRows (fun s => s.flag .d = true ∧ s.cfg.decVRule = rule) := fun rule =>
  ⟨0xFF, 0, ⟨0x65, .adcZp 0xFF, .mem (.zp 0xFF), 3⟩, decimal rule .all, decimal rule .none, by simp [adcRows],
    ⟨⟨by cases rule <;> rfl, rfl⟩, _, _, _, rfl⟩, ⟨by cases rule <;> rfl, rfl⟩, _, rfl⟩

theorem witness_SbcBinary : ReadWitness sbcRows (fun s => s.flag .d = false) :=
  ⟨0xFF, 0, ⟨0xE5, .sbcZp 0xFF, .mem (.zp 0xFF), 3⟩, plain, deaf, by simp [sbcRows], ⟨rfl, _, _, _, rfl⟩, rfl, _, rfl⟩

theorem witness_SbcDecimal : ReadWitness sbcRows (fun s => s.flag .d = true) :=
  ⟨0xFF, 0, ⟨0xE5, .sbcZp 0xFF, .mem (.zp 0xFF), 3⟩, decimal .unchanged .all, decimal .unchanged .none, by simp [sbcRows],
    ⟨rfl, _, _, _, rfl⟩, rfl, _, rfl⟩

theorem witness_Compares :
    ReadWitness cmpRows (fun _ => True) ∧ ReadWitness cpxRows (fun _ => True) ∧ ReadWitness cpyRows (fun _ => True) :=
  ⟨⟨0xFF, 0, ⟨0xC5, .cmpZp 0xFF, .mem (.zp 0xFF), 3⟩, plain, deaf, by simp [cmpRows], ⟨trivial, _, _, _, rfl⟩, trivial, _, rfl⟩,
   ⟨0xFF, 0, ⟨0xE4, .cpxZp 0xFF, .mem (.zp 0xFF), 3⟩, plain, deaf, by simp [cpxRows], ⟨trivial, _, _, _, rfl⟩, trivial, _, rfl⟩,
   ⟨0xFF, 0, ⟨0xC4, .cpyZp 0xFF, .mem (.zp 0xFF), 3⟩, plain, deaf, by simp [cpyRows], ⟨trivial, _, _, _, rfl⟩, trivial, _, rfl⟩⟩

theorem witness_IncrementsAndDecrements : MemWitness incRows ∧ MemWitness decRows :=
  ⟨⟨0xFF, 0, ⟨0xE6, .incZp 0xFF, .zp 0xFF, 5⟩, _, _, by simp [incRows], zp_answered, ⟨_, _, rfl, rfl⟩, rfl, ⟨_, rfl⟩, fun _ => rfl⟩,
   ⟨0xFF, 0, ⟨0xC6, .decZp 0xFF, .zp 0xFF, 5⟩, _, _, by simp [decRows], zp_answered, ⟨_, _, rfl, rfl⟩, rfl, ⟨_, rfl⟩, fun _ => rfl⟩⟩

theorem witness_LogicOperations :
    ReadWitness andRows (fun _ => True) ∧ ReadWitness oraRows (fun _ => True) ∧ ReadWitness eorRows (fun _ => True) :=
  ⟨⟨0xFF, 0, ⟨0x25, .andZp 0xFF, .mem (.zp 0xFF), 3⟩, plain, deaf, by simp [andRows], ⟨trivial, _, _, _, rfl⟩, trivial, _, rfl⟩,
   ⟨0xFF, 0, ⟨0x05, .oraZp 0xFF, .mem (.zp 0xFF), 3⟩, plain, deaf, by simp [oraRows], ⟨trivial, _, _, _, rfl⟩, trivial, _, rfl⟩,
   ⟨0xFF, 0, ⟨0x45, .eorZp 0xFF, .mem (.zp 0xFF), 3⟩, plain, deaf, by simp [eorRows], ⟨trivial, _, _, _, rfl⟩, trivial, _, rfl⟩⟩

theorem witness_BitTest : ReadWitness bitRows (fun _ => True) :=
  ⟨0xFF, 0, ⟨0x24, .bitZp 0xFF, .mem (.zp 0xFF), 3⟩, plain, deaf, by simp [bitRows], ⟨trivial, _, _, _, rfl⟩, trivial, _, rfl⟩

theorem witness_ShiftsAndRotates : MemWitness aslRows ∧ MemWitness lsrRows ∧ MemWitness rolRows ∧ MemWitness rorRows :=
  ⟨⟨0xFF, 0, ⟨0x06, .aslZp 0xFF, .zp 0xFF, 5⟩, _, _, by simp [aslRows], zp_answered, ⟨_, _, rfl, rfl⟩, rfl, ⟨_, rfl⟩, fun _ => rfl⟩,
   ⟨0xFF, 0, ⟨0x46, .lsrZp 0xFF, .zp 0xFF, 5⟩, _, _, by simp [lsrRows], zp_answered, ⟨_, _, rfl, rfl⟩, rfl, ⟨_, rfl⟩, fun _ => rfl⟩,
   ⟨0xFF, 0, ⟨0x26, .rolZp 0xFF, .zp 0xFF, 5⟩, _, _, by simp [rolRows], zp_answered, ⟨_, _, rfl, rfl⟩, rfl, ⟨_, rfl⟩, fun _ => rfl⟩,
   ⟨0xFF, 0, ⟨0x66, .rorZp 0xFF, .zp 0xFF, 5⟩, _, _, by simp [rorRows], zp_answered, ⟨_, _, rfl, rfl⟩, rfl, ⟨_, rfl⟩, fun _ => rfl⟩⟩

/-- A pointer on the last byte of a page: its high byte's address under both settings of `JMP_IND_PAGE_BUG`, and each refused byte. -/
theorem witness_Jumps :
    let s := fun bug => machine { defaultConfig with jmpIndPageBug := bug } (regs 0) [(0x0200, 0x6C), (0x02FF, 0x34), (0x0300, 0x12)]
    (Reads 0x02FF 0x34 (s false) ∧ Reads 0x0300 0x12 (s false)) ∧ (Reads 0x02FF 0x34 (s true) ∧ Reads 0x0200 0x6C (s true)) ∧
      ReadRefused 0x02FF (holed 0x02FF (regs 0)) ∧ (∃ v, Reads 0x02FF v (holed 0x0300 (regs 0))) ∧
      ReadRefused 0x0300 (holed 0x0300 (regs 0)) := ⟨⟨rfl, rfl⟩, ⟨rfl, rfl⟩, rfl, ⟨_, rfl⟩, rfl⟩

/-- SP = 0, so that the second byte wraps; each of the two bytes refused. -/
theorem witness_JumpToSubroutine :
    let low := machine defaultConfig (regs 0 (sp := 0x00)) []
    let first := holed 0x0100 (regs 0 (sp := 0x00))
    let second := holed 0x01FF (regs 0 (sp := 0x00))
    (∃ u v, busWrite (stackByte low low.cpu.sp) 0 low = .ok u ∧ busWrite (stackByte low (low.cpu.sp - 1)) 2 u = .ok v) ∧
      WriteRefused (stackByte first first.cpu.sp) first ∧
      ∃ u, busWrite (stackByte second second.cpu.sp) 0 second = .ok u ∧ WriteRefused (stackByte second (second.cpu.sp - 1)) u :=
  ⟨⟨_, _, rfl, rfl⟩, fun _ => rfl, _, rfl, fun _ => rfl⟩

/-- SP = 0xFE, so that the second byte is pulled from the bottom of the page; each of the two bytes refused. -/
theorem witness_ReturnFromSubroutine :
    let s := machine defaultConfig (regs 0 (sp := 0xFE)) [(0x0100, 0xFF), (0x01FF, 0xFF)]
    let second := holed 0x0100 (regs 0 (sp := 0xFE))
    (Reads (stackByte s (s.cpu.sp + 1)) 0xFF s ∧ Reads (stackByte s (s.cpu.sp + 2)) 0xFF s) ∧
      ReadRefused (stackByte deaf (deaf.cpu.sp + 1)) deaf ∧
      (∃ lo, Reads (stackByte second (second.cpu.sp + 1)) lo second) ∧ ReadRefused (stackByte second (second.cpu.sp + 2)) second :=
  ⟨⟨rfl, rfl⟩, rfl, ⟨_, rfl⟩, rfl⟩

/-- SP = 0xFD, so that the third byte is pulled from the bottom of the page; each of the three bytes refused. -/
theorem witness_ReturnFromInterrupt :
    let s := machine defaultConfig (regs 0 (sp := 0xFD)) [(0x0100, 0x12), (0x01FE, 0xFF), (0x01FF, 0x34)]
    let second := holed 0x01FF (regs 0 (sp := 0xFD))
    let third := holed 0x0100 (regs 0 (sp := 0xFD))
    (Reads (stackByte s (s.cpu.sp + 1)) 0xFF s ∧ Reads (stackByte s (s.cpu.sp + 2)) 0x34 s ∧
        Reads (stackByte s (s.cpu.sp + 3)) 0x12 s) ∧
      ReadRefused (stackByte deaf (deaf.cpu.sp + 1)) deaf ∧
      ((∃ p, Reads (stackByte second (second.cpu.sp + 1)) p second) ∧ ReadRefused (stackByte second (second.cpu.sp + 2)) second) ∧
      (∃ p, Reads (stackByte third (third.cpu.sp + 1)) p third) ∧ (∃ lo, Reads (stackByte third (third.cpu.sp + 2)) lo third) ∧
      ReadRefused (stackByte third (third.cpu.sp + 3)) third :=
  ⟨⟨rfl, rfl, rfl⟩, rfl, ⟨⟨_, rfl⟩, rfl⟩, ⟨_, rfl⟩, ⟨_, rfl⟩, rfl⟩

/-- Taken on the page, taken off it by the most negative displacement from the bottom of the address space, and not taken. -/
theorem witness_Branches :
    (0x30, Instr.bmi 0x80, Flag.n, true) ∈ branchRows 0x80 ∧
      (let s := machine defaultConfig (regs 0x00FE (p := 0x80)) []
       (128 : Nat) / 256 ≠ ((s.cpu.ip.toNat + 2) % 65536) / 256 ∧
         ((128 : Nat) : Int) = (((s.cpu.ip.toNat + 2) % 65536 : Nat) + (0x80 : Byte).toInt) % 65536 ∧ s.flag .n = true) ∧
      (let s := machine defaultConfig (regs 0xFFFE (p := 0x80)) []
       ((65408 : Nat) : Int) = (((s.cpu.ip.toNat + 2) % 65536 : Nat) + (0x80 : Byte).toInt) % 65536 ∧ s.flag .n = true ∧
         65408 / 256 ≠ ((s.cpu.ip.toNat + 2) % 65536) / 256) ∧
      (let s := machine defaultConfig (regs 0x00FE (p := 0x80)) []
       ((383 : Nat) : Int) = (((s.cpu.ip.toNat + 2) % 65536 : Nat) + (0x7F : Byte).toInt) % 65536 ∧ s.flag .n = true ∧
         383 / 256 = ((s.cpu.ip.toNat + 2) % 65536) / 256) ∧
      plain.flag .n ≠ true := by
  refine ⟨by simp [branchRows], ?_, ?_, ?_, ?_⟩ <;> decide

/-- SP = 0, so that the second byte wraps, with the stack page alone in storage. -/
theorem witness_CallThenReturn :
    let low := machine { defaultConfig with manager := storage (.regions [⟨0x0100, 0x0100⟩]) } (regs 0xFFFD (sp := 0x00)) []
    ∀ a ∈ [stackByte low low.cpu.sp, stackByte low (low.cpu.sp - 1)],
      backs low.cfg.manager.readable a = true ∧ backs low.cfg.manager.writable a = true :=
  List.forall_mem_cons.mpr ⟨⟨rfl, rfl⟩, List.forall_mem_cons.mpr ⟨⟨rfl, rfl⟩, nofun⟩⟩

theorem witness_StackInstructions :
    ((∃ u, busWrite (stackByte plain plain.cpu.sp) 0xAA plain = .ok u) ∧ WriteRefused (stackByte deaf deaf.cpu.sp) deaf) ∧
      (∃ v, Reads (stackByte plain (plain.cpu.sp + 1)) v plain) ∧ ReadRefused (stackByte deaf (deaf.cpu.sp + 1)) deaf :=
  ⟨⟨⟨_, rfl⟩, fun _ => rfl⟩, ⟨_, rfl⟩, rfl⟩

theorem witness_FlagInstructions : (0xB8, Instr.clv, Flag.v, false) ∈ flagRows := by simp [flagRows]

theorem witness_FutureExpansion : (0x02, Instr.fx02) ∈ unassignedRows ∧ (0xFF, Instr.fxFF) ∈ unassignedRows := by
  constructor <;> decide

theorem witness_StateChangesOnlyByItsWriters :
    (∃ t, exec (.staZp 0x10) plain = .next t) ∧ (Instr.staZp 0x10).mnemonic ∉ flagWriters .c ∧
      (Instr.staZp 0x10).mnemonic ∉ regWriters .a ∧
      (let s := machine { defaultConfig with txsSetsNZ := false } (regs 0) []
       (∃ t, exec .txs s = .next t) ∧ Instr.txs.mnemonic = "TXS" ∧ s.cfg.txsSetsNZ = false) :=
  ⟨⟨_, rfl⟩, by decide, by decide, ⟨_, rfl⟩, rfl, rfl⟩

/-- A store, and an instruction that stores nothing. -/
theorem witness_MemoryChangesOnlyWhereStored :
    ((∃ t, exec (.staZp 0xFF) plain = .next t) ∧ storedAddresses (.staZp 0xFF) plain = [0x00FF]) ∧
      (∃ t, exec .tax plain = .next t) ∧ storedAddresses .tax plain = [] := ⟨⟨⟨_, rfl⟩, rfl⟩, ⟨_, rfl⟩, rfl⟩

theorem witness_CpuIndependentOfTiaAndTick : ∃ u, exec (.ldaImm 0x80) plain = .next u := ⟨_, rfl⟩

theorem witness_BackedMachineNeverStops : Backed (calling [.runToBreak none] State.reset) := ⟨rfl, rfl⟩

theorem witness_CpuStepOutcomes : ∃ f, step deaf = .fault f := ⟨_, rfl⟩

/-- The invariant of the witness machine, in which memory lists four cells. -/
theorem plain_inv : Inv plain := ⟨by decide, Tia.reset_legal⟩

theorem witness_StepKeepsInvariant : Inv plain ∧ ∃ t, step plain = .next t := ⟨plain_inv, _, rfl⟩

/-- The four outcomes of a pass, the limit at 0 and at 1, and a start with and without an address. -/
theorem witness_RunToBreakPass :
    let s := calling [.continueRun (some 0)] plain
    let broken := calling [.continueRun (some 0)] (machine defaultConfig (regs 0x0200) [(0x0200, 0x00)])
    ReadRefused deaf.cpu.ip (calling [.continueRun none] deaf) ∧ Reads broken.cpu.ip 0 broken ∧
      (Reads s.cpu.ip 0xA9 s ∧ (0xA9 : Byte) ≠ 0) ∧ (some 1 : Option Nat) ≠ some 0 ∧ (none : Option Nat) ≠ some 0 ∧
      (calling [.runToBreak (some 0xFFFF)] plain).schedule = .runToBreak (some 0xFFFF) :: [] :=
  ⟨rfl, rfl, ⟨rfl, by decide⟩, by decide, by decide, rfl⟩

/-- What the statement asks of a run of `n` steps from `s` to a state with opcode `op` at IP, under a limit. -/
def EndsWitness (n : Nat) (limit : Option Nat) (s : State) (op : Byte) : Prop :=
  s.cfg.runStepLimit = limit ∧ s.schedule = [] ∧
    (∀ k, k < n → ∃ u op, cpuRun k s = .next u ∧ busRead u.cpu.ip u = .ok (op, u) ∧ op ≠ 0) ∧
    ∃ t, cpuRun n s = .next t ∧ busRead t.cpu.ip t = .ok (op, t)

/-- A program that breaks at once, and one that breaks after one instruction, without a limit and with the limit just reached; and one that the limit ends
after one instruction. -/
theorem witness_RunToBreakEndsAtFirstBreak :
    let s := fun limit (first second : Byte) =>
      machine { defaultConfig with runStepLimit := limit } (regs 0x0200) [(0x0200, first), (0x0201, second)]
    EndsWitness 0 none (s none 0x00 0x00) 0x00 ∧ EndsWitness 1 none (s none 0xEA 0x00) 0x00 ∧
      EndsWitness 1 (some 1) (s (some 1) 0xEA 0x00) 0x00 ∧ EndsWitness 1 (some 1) (s (some 1) 0xEA 0xEA) 0xEA ∧
      EndsWitness 0 (some 0) (s (some 0) 0xEA 0xEA) 0xEA := by
  have one : ∀ (P : Nat → Prop), P 0 → ∀ k, k < 1 → P k := fun P h k hk => by
    obtain rfl : k = 0 := by omega
    exact h
  have none' : ∀ (P : Nat → Prop) k, k < 0 → P k := fun P k hk => absurd hk (Nat.not_lt_zero k)
  exact ⟨⟨rfl, rfl, none' _, _, rfl, rfl⟩, ⟨rfl, rfl, one _ ⟨_, 0xEA, rfl, rfl, by decide⟩, _, rfl, rfl⟩,
    ⟨rfl, rfl, one _ ⟨_, 0xEA, rfl, rfl, by decide⟩, _, rfl, rfl⟩, ⟨rfl, rfl, one _ ⟨_, 0xEA, rfl, rfl, by decide⟩, _, rfl, rfl⟩,
    ⟨rfl, rfl, none' _, _, rfl, rfl⟩⟩

/-- Each of the calls next, with another behind it, and the first and last of the inspection names. -/
theorem witness_OtherCallsLeaveTheCpu :
    let rest : List Call := [.snapshot]
    (∀ c ∈ [Call.nextClockTick, .renderScanline, .runToClock 227, .writeRegister 0x2C 0xFF, .readRegister 0x37, .inspect .a,
      .inspect .flags, .snapshot], (calling (c :: rest) plain).schedule = c :: rest) ∧
      (Probe.a, 0) ∈ probes plain ∧ (Probe.flags, 0) ∈ probes plain := ⟨fun _ _ => rfl, by decide, by decide⟩

/-- A disassembly of one, two and three bytes, from storage and from a script, each of the three bytes refused; a probe answered and refused. -/
theorem witness_DebugPortsReadMemory :
    let s := fun hole op => calling [.disassembleStep 0x0200] (machine (withHole hole 1) (regs 0) [(0x0200, op), (0x0201, 0x34), (0x0202, 0x12)])
    ((s 0 0xAD).schedule = .disassembleStep 0x0200 :: [] ∧ (calling [.inspect (.m 0)] plain).schedule = .inspect (.m 0) :: []) ∧
      (decode [0xEA] = .ok (.nop, []) ∧ ReadsInTurn 0x0200 [0xEA] (s 0 0xEA) (s 0 0xEA)) ∧
      (decode [0xAD, 0x34, 0x12] = .ok (.ldaAbs 0x1234, []) ∧ ReadsInTurn 0x0200 [0xAD, 0x34, 0x12] (s 0 0xAD) (s 0 0xAD)) ∧
      (decode [0xA9, 0x80] = .ok (.ldaImm 0x80, []) ∧
        ∃ t, ReadsInTurn 0 [0xA9, 0x80] (calling [.disassembleStep 0] (double [.accepts 0xA9, .accepts 0x80] (regs 0))) t) ∧
      ReadRefused 0x0200 (s 0x0200 0xAD) ∧
      (Reads 0x0200 0xAD (s 0x0201 0xAD) ∧ 2 ≤ (formatOf 0xAD).size ∧ ReadRefused 0x0201 (s 0x0201 0xAD)) ∧
      (Reads 0x0200 0xAD (s 0x0202 0xAD) ∧ Reads 0x0201 0x34 (s 0x0202 0xAD) ∧ (formatOf 0xAD).size = 3 ∧
        ReadRefused 0x0202 (s 0x0202 0xAD)) ∧
      Reads 0 0x10 plain ∧ ReadRefused 0 deaf :=
  ⟨⟨rfl, rfl⟩, ⟨rfl, _, rfl, rfl⟩, ⟨rfl, _, rfl, _, rfl, _, rfl, rfl⟩, ⟨rfl, _, _, rfl, _, rfl, rfl⟩, rfl, ⟨rfl, by decide, rfl⟩,
    ⟨rfl, rfl, rfl, rfl⟩, rfl, rfl⟩

/-- The clock on both sides of the first visible column, and on the last. -/
theorem witness_ClockTick :
    ({ Tia.reset with colorClock := 67 }).colorClock.val < 68 ∧
      ({ Tia.reset with colorClock := 68 }).colorClock.val = 68 + (0 : Fin 160).val ∧
      ({ Tia.reset with colorClock := 227 }).colorClock.val = 68 + (159 : Fin 160).val := ⟨by decide, rfl, rfl⟩

/-- The first and last column of the first and last block, and their mates in the right half. -/
theorem witness_PlayfieldHalves :
    (4 * (0 : Fin 20).val ≤ (0 : Fin 160).val ∧ (0 : Fin 160).val < 4 * (0 : Fin 20).val + 4) ∧
      (4 * (19 : Fin 20).val ≤ (79 : Fin 160).val ∧ (79 : Fin 160).val < 4 * (19 : Fin 20).val + 4) ∧
      ((79 : Fin 160).val < 80 ∧ Tia.reset.mirror = false ∧ (159 : Fin 160).val = (79 : Fin 160).val + 80) ∧
      (wrote [(0x0A, 0x01)]).mirror = true ∧ (80 : Fin 160).val = 159 - (79 : Fin 160).val := by decide

/-- A missile of the largest size at the last column; a player drawn by a copy that is not the first. -/
theorem witness_SpriteSpans :
    (⟨159, 0, 1, .x8, .one, .x1, false, false⟩ : Sprite 1).legalSingle ∧
      (⟨0, 0, 0xFF, .x1, .three, .x2, false, false⟩ : Sprite 8).copyDrawn 2 39 = true := by
  refine ⟨⟨rfl, rfl, rfl⟩, by decide⟩

/-- The last playfield bit. -/
theorem witness_PlayfieldRegisters : (0 < 20) ∧ (19 < 20) := by decide

theorem witness_MotionRegisters :
    (1 : Int) = (match defaultConfig.hmoveDir with | .right => 1 | .left => -1) := rfl

/-- The edges of the ignored and the read-as-zero addresses. -/
theorem witness_PortsIgnoreTheRest :
    (0x2B ≠ 0x2C) ∧ (0x00 ∈ [0x00, 0x01, 0x02, 0x03, 0x15, 0x16, 0x17, 0x18, 0x19, 0x1A, 0x28, 0x29] ∨ 0x2C < 0x00) ∧
      (0x2D ∈ [0x00, 0x01, 0x02, 0x03, 0x15, 0x16, 0x17, 0x18, 0x19, 0x1A, 0x28, 0x29] ∨ 0x2C < 0x2D) ∧
      (0x2F < 0x30 ∨ 0x37 < 0x2F) ∧ (0x38 < 0x30 ∨ 0x37 < 0x38) := by decide

/-- A latched category, and a write to HMCLR, the address before CXCLR. -/
theorem witness_LatchesStayUntilCxclr :
    let s := calling [.writeRegister 0x2B 0] { plain with tia := { Tia.reset with collisions := .ofTest fun p => p == .p0P1 } }
    (∃ t, step s = .next t) ∧ (∀ v rest, s.schedule ≠ .writeRegister 0x2C v :: rest) ∧ s.tia.collisions.has .p0P1 = true :=
  ⟨⟨_, rfl⟩, fun v rest h => by simp [calling] at h, rfl⟩

/-- The TIA at reset, and one on the last clock of horizontal blank before column 0. -/
theorem witness_CollisionAlgebra :
    let t := { Tia.reset with colorClock := 68 }
    (Tia.reset.Legal ∧ t.Legal) ∧ t.colorClock.val ≤ 68 ∧ t.p0.x = 0 ∧ t.p1.x = 0 ∧ t.m0.x = 0 ∧ t.m1.x = 0 ∧ t.bl.x = 0 ∧
      t.p0.delayed = false ∧ t.p1.delayed = false ∧ t.bl.delayed = false ∧ t.p0.mirror = false ∧ t.p1.mirror = false :=
  ⟨⟨Tia.reset_legal, Tia.reset_legal⟩, by decide, rfl, rfl, rfl, rfl, rfl, rfl, rfl, rfl, rfl, rfl⟩

end Sys2Proof.Tests
end

section
/-! PROOFS. The encoding: the byte sequences the source itself shows. -/

namespace Sys2Proof

open Laws.EncodeRoundTrip in
/-- Settles O3: each of the seven byte sequences is the encoding of the instruction the source names, so the round trip of that row decodes it. -/
theorem evidencedBytesDecode : Obligations.EvidencedBytesDecode :=
  ⟨ldxImm 0x00 rfl [], rfl,
   jsr 0x000B rfl [], rfl,
   dex rfl [], rfl,
   bne 0xFA rfl [], rfl,
   jmpAbs 0x000C rfl [], rfl,
   rts rfl [], rfl,
   brk rfl [], rfl⟩

end Sys2Proof
end

section
/-! PROOFS. The engine's stack: what a push stores and a pull reads, at the stack byte's plain address. -/

namespace Sys2Proof
open Machine Stated

/-! ## A write that is answered -/

/-- What a write does, in the statements' words: storage takes the byte and keeps the others, or the script takes it. -/
theorem stored_of_busWrite {a : Word} {v : Byte} {s u : State} (h : busWrite a v s = .ok u) : Stored a v s u := by
  rcases busWrite_ok.mp h with ⟨hw, rfl⟩ | ⟨hw, w, hask⟩
  · have others : ∀ b, b ≠ a.toNat → (s.mem.write a.toNat v).read b = s.mem.read b :=
      fun b hb => Memory.read_write_other _ _ hb.symm
    simpa only [Stored, hw, if_true] using ⟨rfl, Memory.read_write_same _ _ _, others⟩
  · obtain ⟨hs, rest, hscript, rfl⟩ := askScript_ok.mp hask
    simpa only [Stored, hw, Bool.false_eq_true, if_false] using ⟨hs, w, rest, hscript, rfl⟩

theorem busWrite_cpu {a : Word} {v : Byte} {s u : State} (h : busWrite a v s = .ok u) : u.cpu = s.cpu := by
  rcases busWrite_frame h with hu | hu <;> rw [hu] <;> rfl

/-! ## The stack byte -/

theorem wordOf_stackPage (s : State) (sp : Byte) : wordOf sp s.cfg.stackPage = stackByte s sp := by
  rw [wordOf_eq_ofNat, stackByte, Nat.add_comm, Nat.mul_comm]

theorem stackAddr_eq_stackByte (s : State) : stackAddr s = stackByte s s.cpu.sp := wordOf_stackPage s _

theorem pullAddr_eq_stackByte (s : State) : pullAddr s = stackByte s (s.cpu.sp + 1) := wordOf_stackPage s _

/-- SP one higher, modulo 256. -/
theorem ofNat_toNat_add_one (sp : Byte) : BitVec.ofNat 8 (sp.toNat + 1) = sp + 1 := by
  bv_omega

/-- SP one lower, modulo 256. -/
theorem ofNat_toNat_add_255 (sp : Byte) : BitVec.ofNat 8 (sp.toNat + 255) = sp - 1 := by
  bv_omega

/-! ## Push and pull at the stack byte -/

theorem push_of_busWrite {v : Byte} {s u : State} (h : busWrite (stackByte s s.cpu.sp) v s = .ok u) :
    push v s = .ok (u.setReg .sp (s.cpu.sp - 1)) :=
  push_ok.mpr ⟨u, by rw [stackAddr_eq_stackByte, h], by rw [busWrite_cpu h]⟩

theorem push_of_busWrite_error {v : Byte} {s : State} {f : Fault} (h : busWrite (stackByte s s.cpu.sp) v s = .error f) :
    push v s = .error (.busFault (stackByte s s.cpu.sp)) := by
  rw [push_error, stackAddr_eq_stackByte, h, (busWrite_names h).1]

theorem pull_of_busRead {v : Byte} {s u : State} (h : busRead (stackByte s (s.cpu.sp + 1)) s = .ok (v, u)) :
    pull s = .ok (v, u.setReg .sp (s.cpu.sp + 1)) := by
  rw [pull_eq_read, pullAddr_eq_stackByte, h, thenState]

theorem pull_of_busRead_error {s : State} {f : Fault} (h : busRead (stackByte s (s.cpu.sp + 1)) s = .error f) :
    pull s = .error (.busFault (stackByte s (s.cpu.sp + 1))) := by
  rw [pull_eq_read, pullAddr_eq_stackByte, h, (busRead_names h).1, thenState]

/-- Settles O10: the push and the pull, each answered and refused, at the stack byte of SP and of SP + 1. -/
theorem pushAndPull : Obligations.PushAndPull := by
  intro s
  refine ⟨fun v => ⟨fun u h => ⟨stored_of_busWrite h, ?_⟩, fun f h => push_of_busWrite_error h⟩, ?_⟩
  · rw [ofNat_toNat_add_255]
    exact push_of_busWrite h
  · intro sp hsp
    obtain rfl : sp = s.cpu.sp + 1 := hsp.trans (ofNat_toNat_add_one _)
    exact ⟨fun v u h => pull_of_busRead h, fun f h => pull_of_busRead_error h⟩

end Sys2Proof
end

section
/-! PROOFS. Instructions that leave NIP alone, in the statements' words: one lemma for the frame, and one for each shape of table row the statements
list (a row that reads an operand, a row of one byte). -/

namespace Sys2Proof
open Machine Stated

/-! ## Encodings of rows -/

/-- A round trip, read as the statements' `Encodes`. -/
theorem encodes_of_roundTrip {i : Instr} {bs : List Byte} (h : Laws.EncodeRoundTrip.Statement i) (he : encode i = bs) :
    Encodes i bs :=
  ⟨he, fun rest => he ▸ h rfl rest⟩

/-- The two operand bytes of an absolute mode, as numbers. -/
theorem wordBytes_eq_memBytes (w : Word) : wordBytes w = memBytes (.abs w) := by
  have hlow : lowByte w = BitVec.ofNat 8 w.toNat :=
    BitVec.eq_of_toNat_eq (by rw [lowByte_toNat, BitVec.toNat_ofNat])
  have hhigh : highByte w = BitVec.ofNat 8 (w.toNat / 256) :=
    BitVec.eq_of_toNat_eq (by rw [highByte_toNat, BitVec.toNat_ofNat]; have := w.isLt; omega)
  rw [wordBytes, memBytes, hlow, hhigh]

/-- The encoding of a three-byte row; the three absolute modes have the same operand bytes. -/
theorem encodes_word {i : Instr} {op : Byte} {w : Word} (h : Laws.EncodeRoundTrip.Statement i)
    (he : encode i = op :: wordBytes w) : Encodes i (op :: memBytes (.abs w)) :=
  encodes_of_roundTrip h (he.trans (by rw [wordBytes_eq_memBytes]))

/-! ## The frame of an instruction that leaves NIP alone -/

/-- An effect that neither looks at NIP nor writes it. -/
def SkipsNip (e : Effect) : Prop := ∀ t s, e (s.setNip t) = thenEffect (State.setNip t) (e s)

/-- The nominal advance and the commit (40_cpu_engine.md R150) make the `advanced` of the statements. -/
theorem commit_setNip {s u : State} (hip : u.cpu.ip = s.cpu.ip) (size cycles : Nat) :
    (u.setNip (s.cpu.ip + BitVec.ofNat 16 size)).commit cycles = advanced size cycles u := by
  have hnext : s.cpu.ip + BitVec.ofNat 16 size = BitVec.ofNat 16 (u.cpu.ip.toNat + size) := by
    rw [hip, BitVec.ofNat_add, BitVec.ofNat_toNat, BitVec.setWidth_eq]
  rw [hnext]
  rfl

theorem exec_of_effect_ok {i : Instr} {s u : State} {extra : Nat} (hi : SkipsNip (Form.of i).effect)
    (h : (Form.of i).effect s = .ok (u, extra)) :
    exec i s = .next (advanced (Form.of i).size ((Form.of i).cycles s + extra) u) := by
  have he := hi (s.cpu.ip + BitVec.ofNat 16 (Form.of i).size) s
  rw [h] at he
  exact exec_next.mpr ⟨_, extra, he, (commit_setNip ((Form.of i).frame h).ip _ _).symm⟩

theorem exec_of_effect_error {i : Instr} {s : State} {f : Fault} (hi : SkipsNip (Form.of i).effect)
    (h : (Form.of i).effect s = .error f) : exec i s = .fault f := by
  rw [exec_fault, hi, h, thenEffect]

/-! ## Rows that read an operand -/

/-- `m <- operand(); g(m)`, with the operand's penalty. -/
def readThen (o : ReadOperand) (g : Byte → State → State) : Effect := fun s => do
  let ((m, extra), s) ← o.read s
  .ok (g m s, extra)

theorem readThen_ok {o : ReadOperand} {g : Byte → State → State} {s u : State} {m : Byte} {extra : Nat}
    (h : o.read s = .ok ((m, extra), u)) : readThen o g s = .ok (g m u, extra) := by
  rw [readThen, h]
  rfl

theorem readThen_error {o : ReadOperand} {g : Byte → State → State} {s : State} {f : Fault}
    (h : o.read s = .error f) : readThen o g s = .error f := by
  rw [readThen, h]
  rfl

theorem readThen_skipsNip {g : Byte → State → State} (hg : ∀ m t s, g m (s.setNip t) = (g m s).setNip t) (o : ReadOperand) :
    SkipsNip (readThen o g) := by
  intro t s
  have hread := (Unseen.setNip t).read o s
  cases hr : o.read s with
  | error f =>
    rw [hr] at hread
    rw [readThen_error hr, readThen_error hread, thenEffect]
  | ok r =>
    rw [hr] at hread
    rw [readThen_ok hr, readThen_ok hread, thenEffect, hg]

/-- A shape that reads its operand and then applies `g`, which leaves NIP alone. -/
structure ReadingShape (shape : Nat → ReadOperand → Form) (g : Byte → State → State) : Prop where
  size (c : Nat) (o : ReadOperand) : (shape c o).size = o.size
  cycles (c : Nat) (o : ReadOperand) (s : State) : (shape c o).cycles s = c
  effect (c : Nat) (o : ReadOperand) : (shape c o).effect = readThen o g
  skipsNip (m : Byte) (t : Word) (s : State) : g m (s.setNip t) = (g m s).setNip t

/-- Every row is encoded as listed, and its instruction has the shape. -/
def ReadRowsHave (shape : Nat → ReadOperand → Form) (rows : Byte → Word → List ReadRow) : Prop :=
  ∀ b w, ∀ row ∈ rows b w,
    Encodes row.instr (row.op :: readBytes row.operand) ∧ Form.of row.instr = shape row.cycles row.operand

/-- Rows of a reading shape do what `g` does to the state their operand read leaves, which differs from the start in the bus alone. -/
theorem readsAs_of_shape {shape : Nat → ReadOperand → Form} {g : Byte → State → State} {rows : Byte → Word → List ReadRow}
    {pre : State → Prop} {effect : State → Byte → State → Prop} (hshape : ReadingShape shape g) (hrows : ReadRowsHave shape rows)
    (heffect : ∀ s bus m, pre s → effect (s.withBus bus) m (g m (s.withBus bus))) : ReadsAs rows pre effect := by
  intro b w row hrow
  obtain ⟨hencodes, hform⟩ := hrows b w row hrow
  have heff : (Form.of row.instr).effect = readThen row.operand g := hform ▸ hshape.effect _ _
  have hskips : SkipsNip (Form.of row.instr).effect := heff ▸ readThen_skipsNip hshape.skipsNip _
  refine ⟨hencodes, fun s hs => ⟨fun m extra s' hread => ?_, fun f hread => ?_⟩⟩
  · refine ⟨g m s', ?_, ?_⟩
    · rw [ReadOperand.read_frame hread]
      exact heffect s s'.bus m hs
    · have hexec := exec_of_effect_ok hskips (heff ▸ readThen_ok hread)
      rwa [hform, hshape.size, hshape.cycles] at hexec
  · exact exec_of_effect_error hskips (heff ▸ readThen_error hread)

/-! ## Rows with a memory operand -/

/-- Every row is encoded as listed, and its instruction has the shape. -/
def MemRowsHave (shape : Nat → MemOperand → Form) (rows : Byte → Word → List MemRow) : Prop :=
  ∀ b w, ∀ row ∈ rows b w,
    Encodes row.instr (row.op :: memBytes row.operand) ∧ Form.of row.instr = shape row.cycles row.operand

/-! ## Rows of one byte -/

/-- A one-byte instruction whose effect is the plain change `g`, which leaves NIP alone, completes from every state. -/
theorem runsAs_of_pure {op : Byte} {i : Instr} {c : Nat} {g : State → State} {effect : State → State → Prop}
    (hencodes : Encodes i [op]) (hsize : (Form.of i).size = 1) (hcycles : ∀ s, (Form.of i).cycles s = c)
    (heff : (Form.of i).effect = Effect.pure g) (hg : ∀ t s, g (s.setNip t) = (g s).setNip t)
    (heffect : ∀ s, effect s (g s)) : RunsAs op i c effect := by
  have hskips : SkipsNip (Form.of i).effect := by
    intro t s
    rw [heff, Effect.pure, Effect.pure, hg, thenEffect]
  refine ⟨hencodes, fun s => ⟨g s, heffect s, ?_⟩⟩
  have hexec := exec_of_effect_ok hskips (s := s) (congrFun heff s)
  rwa [hsize, hcycles] at hexec

end Sys2Proof
end

section
/-! PROOFS. Loads, stores and register transfers (41_load_store_transfer.md). -/

namespace Sys2Proof
open Machine Stated

/-! ## A register takes a byte -/

/-- `setNZ` in the statements' words (40_cpu_engine.md R172). -/
theorem flagsWritten_putNZ (v p : Byte) : FlagsWritten (nzOf v) p (putNZ v p) := by
  intro f
  rw [getFlag_putNZ, msb_eq_decide, beq_zero_eq_decide]
  cases f <;> rfl

theorem regTakes_setReg_setNZ (r : Reg) (v : Byte) (s : State) : RegTakes r v s ((s.setReg r v).setNZ v) := by
  refine ⟨putNZ v s.cpu.p, flagsWritten_putNZ v s.cpu.p, ?_⟩
  cases r <;> rfl

/-- Writing a register with its N and Z leaves NIP alone. -/
theorem setReg_setNZ_setNip (r : Reg) (v : Byte) (t : Word) (s : State) :
    ((s.setNip t).setReg r v).setNZ v = ((s.setReg r v).setNZ v).setNip t := by
  cases r <;> rfl

/-! ## Loads -/

theorem load_readingShape (r : Reg) : ReadingShape (.load r) fun m s => (s.setReg r m).setNZ m where
  size _ _ := rfl
  cycles _ _ _ := rfl
  effect _ _ := rfl
  skipsNip := setReg_setNZ_setNip r

theorem readsAs_load {r : Reg} {rows : Byte → Word → List ReadRow} (h : ReadRowsHave (.load r) rows) :
    ReadsAs rows (fun _ => True) (fun s m u => RegTakes r m s u) :=
  readsAs_of_shape (load_readingShape r) h fun _ _ m _ => regTakes_setReg_setNZ r m _

section
open Laws.EncodeRoundTrip

theorem ldaRows_load : ReadRowsHave (.load .a) ldaRows := by
  intro b w
  simp only [ldaRows, List.forall_mem_cons, List.not_mem_nil, false_implies, implies_true, and_true]
  exact ⟨⟨encodes_of_roundTrip (ldaIzx b) rfl, rfl⟩, ⟨encodes_of_roundTrip (ldaZp b) rfl, rfl⟩,
    ⟨encodes_of_roundTrip (ldaImm b) rfl, rfl⟩, ⟨encodes_word (ldaAbs w) rfl, rfl⟩,
    ⟨encodes_of_roundTrip (ldaIzy b) rfl, rfl⟩, ⟨encodes_of_roundTrip (ldaZpx b) rfl, rfl⟩,
    ⟨encodes_word (ldaAby w) rfl, rfl⟩, ⟨encodes_word (ldaAbx w) rfl, rfl⟩⟩

theorem ldxRows_load : ReadRowsHave (.load .x) ldxRows := by
  intro b w
  simp only [ldxRows, List.forall_mem_cons, List.not_mem_nil, false_implies, implies_true, and_true]
  exact ⟨⟨encodes_of_roundTrip (ldxImm b) rfl, rfl⟩, ⟨encodes_of_roundTrip (ldxZp b) rfl, rfl⟩,
    ⟨encodes_word (ldxAbs w) rfl, rfl⟩, ⟨encodes_of_roundTrip (ldxZpy b) rfl, rfl⟩, ⟨encodes_word (ldxAby w) rfl, rfl⟩⟩

theorem ldyRows_load : ReadRowsHave (.load .y) ldyRows := by
  intro b w
  simp only [ldyRows, List.forall_mem_cons, List.not_mem_nil, false_implies, implies_true, and_true]
  exact ⟨⟨encodes_of_roundTrip (ldyImm b) rfl, rfl⟩, ⟨encodes_of_roundTrip (ldyZp b) rfl, rfl⟩,
    ⟨encodes_word (ldyAbs w) rfl, rfl⟩, ⟨encodes_of_roundTrip (ldyZpx b) rfl, rfl⟩, ⟨encodes_word (ldyAbx w) rfl, rfl⟩⟩

end

/-- Settles O11: every row is a load of its operand into its register. -/
theorem loads : Obligations.Loads :=
  ⟨readsAs_load ldaRows_load, readsAs_load ldxRows_load, readsAs_load ldyRows_load⟩

/-! ## Stores -/

theorem store_effect_skipsNip (r : Reg) (c : Nat) (m : MemOperand) : SkipsNip (Form.store r c m).effect := by
  intro t s
  simp only [Form.effect, (Unseen.setNip t).address, bind]
  cases m.address s with
  | error f => rfl
  | ok p =>
    obtain ⟨⟨ea, crossed⟩, s'⟩ := p
    simp only [thenState, Except.bind, (Unseen.setNip t).busWrite, State.reg_setNip]
    cases busWrite ea (s'.reg r) s' <;> rfl

/-- Working out an address changes no register. -/
theorem reg_of_address {m : MemOperand} {s s' : State} {a : Word × Bool} (h : m.address s = .ok (a, s')) (r : Reg) :
    s'.reg r = s.reg r := by
  rw [MemOperand.address_frame h, State.reg_withBus]

/-- Once its address is worked out, a store is its write. -/
theorem store_effect_of_address {r : Reg} {c : Nat} {m : MemOperand} {s s' : State} {ea : Word} {crossed : Bool}
    (h : m.address s = .ok ((ea, crossed), s')) :
    (Form.store r c m).effect s = (busWrite ea (s.reg r) s').map fun u => (u, 0) := by
  simp only [Form.effect, h, ← reg_of_address h r, bind, Except.bind]
  cases busWrite ea (s'.reg r) s' <;> rfl

theorem store_effect_of_address_error {r : Reg} {c : Nat} {m : MemOperand} {s : State} {f : Fault}
    (h : m.address s = .error f) : (Form.store r c m).effect s = .error f := by
  simp only [Form.effect, h, bind, Except.bind]

theorem storesAs_of_shape {r : Reg} {rows : Byte → Word → List MemRow} (hrows : MemRowsHave (.store r) rows) :
    StoresAs rows (State.reg r) := by
  intro b w row hrow
  obtain ⟨hencodes, hform⟩ := hrows b w row hrow
  have hskips : SkipsNip (Form.of row.instr).effect := hform ▸ store_effect_skipsNip r _ _
  refine ⟨hencodes, fun s => ⟨fun ea crossed s' haddr => ⟨fun u hwrite => ?_, fun f hwrite => ?_⟩, fun f haddr => ?_⟩⟩
  · have heff : (Form.of row.instr).effect s = .ok (u, 0) := by
      rw [hform, store_effect_of_address haddr, hwrite, Except.map]
    have hexec := exec_of_effect_ok hskips heff
    rw [hform] at hexec
    exact ⟨stored_of_busWrite hwrite, hexec⟩
  · refine exec_of_effect_error hskips ?_
    rw [hform, store_effect_of_address haddr, hwrite, Except.map]
  · refine exec_of_effect_error hskips ?_
    rw [hform, store_effect_of_address_error haddr]

section
open Laws.EncodeRoundTrip

theorem staRows_store : MemRowsHave (.store .a) staRows := by
  intro b w
  simp only [staRows, List.forall_mem_cons, List.not_mem_nil, false_implies, implies_true, and_true]
  exact ⟨⟨encodes_of_roundTrip (staIzx b) rfl, rfl⟩, ⟨encodes_of_roundTrip (staZp b) rfl, rfl⟩,
    ⟨encodes_word (staAbs w) rfl, rfl⟩, ⟨encodes_of_roundTrip (staIzy b) rfl, rfl⟩,
    ⟨encodes_of_roundTrip (staZpx b) rfl, rfl⟩, ⟨encodes_word (staAby w) rfl, rfl⟩, ⟨encodes_word (staAbx w) rfl, rfl⟩⟩

theorem stxRows_store : MemRowsHave (.store .x) stxRows := by
  intro b w
  simp only [stxRows, List.forall_mem_cons, List.not_mem_nil, false_implies, implies_true, and_true]
  exact ⟨⟨encodes_of_roundTrip (stxZp b) rfl, rfl⟩, ⟨encodes_word (stxAbs w) rfl, rfl⟩,
    ⟨encodes_of_roundTrip (stxZpy b) rfl, rfl⟩⟩

theorem styRows_store : MemRowsHave (.store .y) styRows := by
  intro b w
  simp only [styRows, List.forall_mem_cons, List.not_mem_nil, false_implies, implies_true, and_true]
  exact ⟨⟨encodes_of_roundTrip (styZp b) rfl, rfl⟩, ⟨encodes_word (styAbs w) rfl, rfl⟩,
    ⟨encodes_of_roundTrip (styZpx b) rfl, rfl⟩⟩

end

/-- Settles O12: every row is a store of its register at its operand's address. -/
theorem stores : Obligations.Stores :=
  ⟨storesAs_of_shape staRows_store, storesAs_of_shape stxRows_store, storesAs_of_shape styRows_store⟩

/-! ## Transfers -/

theorem runsAs_transfer {op : Byte} {i : Instr} {src dst : Reg} {c : Nat} (hencodes : Encodes i [op])
    (hform : Form.of i = .transfer src dst c) : RunsAs op i c (fun s u => RegTakes dst (s.reg src) s u) := by
  refine runsAs_of_pure (g := fun s => (s.setReg dst (s.reg src)).setNZ (s.reg src)) hencodes ?_ ?_ ?_
    (fun t s => ?_) (fun s => regTakes_setReg_setNZ dst (s.reg src) s)
  · rw [hform, Form.size]
  · intro s
    rw [hform, Form.cycles]
  · rw [hform, Form.effect]
  · simp only [State.reg_setNip, setReg_setNZ_setNip]

open Laws.EncodeRoundTrip in
/-- Settles O13: each of the five is a transfer from one register to another. -/
theorem registerTransfers : Obligations.RegisterTransfers :=
  ⟨runsAs_transfer (encodes_of_roundTrip tax rfl) rfl, runsAs_transfer (encodes_of_roundTrip tay rfl) rfl,
   runsAs_transfer (encodes_of_roundTrip txa rfl) rfl, runsAs_transfer (encodes_of_roundTrip tya rfl) rfl,
   runsAs_transfer (encodes_of_roundTrip tsx rfl) rfl⟩

end Sys2Proof
end

section
/-! PROOFS. Table rows that change the byte at an address in place, for every modifying operation (42_arithmetic.md R218, R219;
43_logic_shift.md R244 to R247). -/

namespace Sys2Proof
open Machine Stated

/-! ## Rows that modify a byte of memory -/

/-- Working out an address changes nothing in the CPU. -/
theorem cpu_of_address {m : MemOperand} {s s' : State} {a : Word × Bool} (h : m.address s = .ok (a, s')) : s'.cpu = s.cpu := by
  rw [MemOperand.address_frame h, State.withBus_cpu]

theorem busRead_cpu {a : Word} {v : Byte} {s u : State} (h : busRead a s = .ok (v, u)) : u.cpu = s.cpu := by
  rw [busRead_frame h, State.withBus_cpu]

theorem modifyMem_effect_skipsNip (op : ModifyOp) (c : Nat) (m : MemOperand) : SkipsNip (Form.modifyMem op c m).effect := by
  intro t s
  simp only [Form.effect, (Unseen.setNip t).address, bind]
  cases m.address s with
  | error f => rfl
  | ok p =>
    obtain ⟨⟨ea, crossed⟩, s₁⟩ := p
    simp only [thenState, Except.bind, (Unseen.setNip t).busRead]
    cases busRead ea s₁ with
    | error f => rfl
    | ok q =>
      obtain ⟨v, s₂⟩ := q
      simp only [(Unseen.setNip t).busWrite, State.flag_setNip]
      cases busWrite ea (op.result v (s₂.flag .c)) s₂ <;> rfl

section
variable {op : ModifyOp} {c : Nat} {m : MemOperand} {s s₁ : State} {ea : Word} {crossed : Bool}

theorem modifyMem_effect_of_address_error {f : Fault} (h : m.address s = .error f) :
    (Form.modifyMem op c m).effect s = .error f := by
  simp only [Form.effect, h, bind, Except.bind]

theorem modifyMem_effect_of_read_error {f : Fault} (ha : m.address s = .ok ((ea, crossed), s₁))
    (hr : busRead ea s₁ = .error f) : (Form.modifyMem op c m).effect s = .error f := by
  simp only [Form.effect, ha, hr, bind, Except.bind]

/-- Once its byte is read, a modifying instruction is the write of the result, and then the flags; the carry is the one it started with. -/
theorem modifyMem_effect_of_read {s₂ : State} {v : Byte} (ha : m.address s = .ok ((ea, crossed), s₁))
    (hr : busRead ea s₁ = .ok (v, s₂)) :
    (Form.modifyMem op c m).effect s =
      (busWrite ea (op.result v (s.flag .c)) s₂).map fun u => (u.modifyP (op.status v), 0) := by
  have hcarry : s₂.flag .c = s.flag .c := by
    rw [State.flag, State.flag, busRead_cpu hr, cpu_of_address ha]
  simp only [Form.effect, ha, hr, hcarry, bind, Except.bind]
  cases busWrite ea (op.result v (s.flag .c)) s₂ <;> rfl

end

/-- Rows of one modifying operation, whose result is the number `result` gives and whose status byte is the one `flags` gives. -/
theorem modifiesAs_of_shape {op : ModifyOp} {rows : Byte → Word → List MemRow} {result : Nat → Nat → Nat}
    {flags : Byte → Byte → Flag → Option Bool} (hrows : MemRowsHave (.modifyMem op) rows)
    (hresult : ∀ v c, op.result v c = BitVec.ofNat 8 (result v.toNat c.toNat))
    (hflags : ∀ v p, FlagsWritten (flags v (op.result v (getFlag .c p))) p (op.status v p)) :
    ModifiesAs rows result flags := by
  intro b w row hrow
  obtain ⟨hencodes, hform⟩ := hrows b w row hrow
  have hskips : SkipsNip (Form.of row.instr).effect := hform ▸ modifyMem_effect_skipsNip op _ _
  refine ⟨hencodes, fun s => ⟨fun ea crossed s₁ haddr => ⟨fun v s₂ r hread hr => ?_, fun f hread => ?_⟩, fun f haddr => ?_⟩⟩
  · obtain rfl : r = op.result v (s.flag .c) := hr.trans (hresult v _).symm
    have heff : (Form.of row.instr).effect s =
        (busWrite ea (op.result v (s.flag .c)) s₂).map fun u => (u.modifyP (op.status v), 0) := by
      rw [hform, modifyMem_effect_of_read haddr hread]
    refine ⟨fun u hwrite => ⟨stored_of_busWrite hwrite, op.status v s.cpu.p, hflags v _, ?_⟩, fun f hwrite => ?_⟩
    · have hp : u.cpu = s.cpu := by rw [busWrite_cpu hwrite, busRead_cpu hread, cpu_of_address haddr]
      rw [hwrite, Except.map] at heff
      have hexec := exec_of_effect_ok hskips heff
      rw [hform] at hexec
      rw [← hp]
      exact hexec
    · rw [hwrite, Except.map] at heff
      exact exec_of_effect_error hskips heff
  · refine exec_of_effect_error hskips ?_
    rw [hform, modifyMem_effect_of_read_error haddr hread]
  · refine exec_of_effect_error hskips ?_
    rw [hform, modifyMem_effect_of_address_error haddr]

end Sys2Proof
end

section
/-! PROOFS. Compares, increments and decrements (42_arithmetic.md R214 to R223). -/

namespace Sys2Proof
open Machine Stated

/-! ## Compares -/

/-- The byte a compare takes N from is the difference modulo 256. -/
theorem toNat_sub_eq_emod (r m : Byte) : ((r - m).toNat : Int) = ((r.toNat : Int) - m.toNat) % 256 := by
  rw [BitVec.toNat_sub]
  omega

/-- Two bytes are equal when their difference is zero. -/
theorem beq_eq_decide_sub (r m : Byte) : (r == m) = decide ((r - m).toNat = 0) := by
  rw [Bool.eq_iff_iff, beq_iff_eq, decide_eq_true_iff]
  bv_omega

theorem flagsWritten_putCompare (r m p : Byte) :
    FlagsWritten (nzcOf (r - m) (decide (m.toNat ≤ r.toNat))) p (putCompare r m p) := by
  intro f
  rw [getFlag_putCompare, msb_eq_decide, beq_eq_decide_sub]
  cases f <;> rfl

theorem compareReg_readingShape (r : Reg) :
    ReadingShape (.compareReg r) fun m s => s.modifyP (putCompare (s.reg r) m) where
  size _ _ := rfl
  cycles _ _ _ := rfl
  effect _ _ := rfl
  skipsNip m t s := by rw [State.reg_setNip, (Unseen.setNip t).modifyP]

theorem readsAs_compareReg {r : Reg} {rows : Byte → Word → List ReadRow} (h : ReadRowsHave (.compareReg r) rows) :
    ReadsAs rows (fun _ => True) fun s m u =>
      ∃ d : Byte, (d.toNat : Int) = (((s.reg r).toNat : Int) - m.toNat) % 256 ∧
        FlagsTake (nzcOf d (decide (m.toNat ≤ (s.reg r).toNat))) s u :=
  readsAs_of_shape (compareReg_readingShape r) h fun _ _ m _ =>
    ⟨_, toNat_sub_eq_emod _ m, _, flagsWritten_putCompare _ m _, rfl⟩

section
open Laws.EncodeRoundTrip

theorem cmpRows_compareReg : ReadRowsHave (.compareReg .a) cmpRows := by
  intro b w
  simp only [cmpRows, List.forall_mem_cons, List.not_mem_nil, false_implies, implies_true, and_true]
  exact ⟨⟨encodes_of_roundTrip (cmpIzx b) rfl, rfl⟩, ⟨encodes_of_roundTrip (cmpZp b) rfl, rfl⟩,
    ⟨encodes_of_roundTrip (cmpImm b) rfl, rfl⟩, ⟨encodes_word (cmpAbs w) rfl, rfl⟩,
    ⟨encodes_of_roundTrip (cmpIzy b) rfl, rfl⟩, ⟨encodes_of_roundTrip (cmpZpx b) rfl, rfl⟩,
    ⟨encodes_word (cmpAby w) rfl, rfl⟩, ⟨encodes_word (cmpAbx w) rfl, rfl⟩⟩

theorem cpxRows_compareReg : ReadRowsHave (.compareReg .x) cpxRows := by
  intro b w
  simp only [cpxRows, List.forall_mem_cons, List.not_mem_nil, false_implies, implies_true, and_true]
  exact ⟨⟨encodes_of_roundTrip (cpxImm b) rfl, rfl⟩, ⟨encodes_of_roundTrip (cpxZp b) rfl, rfl⟩,
    ⟨encodes_word (cpxAbs w) rfl, rfl⟩⟩

theorem cpyRows_compareReg : ReadRowsHave (.compareReg .y) cpyRows := by
  intro b w
  simp only [cpyRows, List.forall_mem_cons, List.not_mem_nil, false_implies, implies_true, and_true]
  exact ⟨⟨encodes_of_roundTrip (cpyImm b) rfl, rfl⟩, ⟨encodes_of_roundTrip (cpyZp b) rfl, rfl⟩,
    ⟨encodes_word (cpyAbs w) rfl, rfl⟩⟩

end

/-- Settles O19: every row compares its operand with its register. -/
theorem compares : Obligations.Compares :=
  ⟨readsAs_compareReg cmpRows_compareReg, readsAs_compareReg cpxRows_compareReg, readsAs_compareReg cpyRows_compareReg⟩

/-! ## Increments and decrements -/

/-- Adding 1 to a byte, in plain numbers. -/
theorem add_one_eq_ofNat (v : Byte) : v + 1 = BitVec.ofNat 8 (v.toNat + 1) := (ofNat_toNat_add_one v).symm

/-- Adding -1 to a byte, in plain numbers. -/
theorem add_neg_one_eq_ofNat (v : Byte) : v + -1 = BitVec.ofNat 8 (v.toNat + 255) := by
  rw [ofNat_toNat_add_255, ← sub_eq_add_neg]

section
open Laws.EncodeRoundTrip

theorem incRows_modifyMem : MemRowsHave (.modifyMem .inc) incRows := by
  intro b w
  simp only [incRows, List.forall_mem_cons, List.not_mem_nil, false_implies, implies_true, and_true]
  exact ⟨⟨encodes_of_roundTrip (incZp b) rfl, rfl⟩, ⟨encodes_word (incAbs w) rfl, rfl⟩,
    ⟨encodes_of_roundTrip (incZpx b) rfl, rfl⟩, ⟨encodes_word (incAbx w) rfl, rfl⟩⟩

theorem decRows_modifyMem : MemRowsHave (.modifyMem .dec) decRows := by
  intro b w
  simp only [decRows, List.forall_mem_cons, List.not_mem_nil, false_implies, implies_true, and_true]
  exact ⟨⟨encodes_of_roundTrip (decZp b) rfl, rfl⟩, ⟨encodes_word (decAbs w) rfl, rfl⟩,
    ⟨encodes_of_roundTrip (decZpx b) rfl, rfl⟩, ⟨encodes_word (decAbx w) rfl, rfl⟩⟩

end

theorem incRows_modifiesAs : ModifiesAs incRows (fun v _ => v + 1) (fun _ r => nzOf r) :=
  modifiesAs_of_shape incRows_modifyMem (fun v _ => add_one_eq_ofNat v) fun v p => flagsWritten_putNZ (v + 1) p

theorem decRows_modifiesAs : ModifiesAs decRows (fun v _ => v + 255) (fun _ r => nzOf r) :=
  modifiesAs_of_shape decRows_modifyMem (fun v _ => (ofNat_toNat_add_255 v).symm) fun v p => flagsWritten_putNZ (v - 1) p

/-- A register count by `k`, which in plain numbers adds `n`. -/
theorem runsAs_countReg {op : Byte} {i : Instr} {r : Reg} {k : Byte} {n c : Nat} (hencodes : Encodes i [op])
    (hform : Form.of i = .countReg r k c) (hk : ∀ v : Byte, v + k = BitVec.ofNat 8 (v.toNat + n)) :
    RunsAs op i c (fun s u => RegTakes r (BitVec.ofNat 8 ((s.reg r).toNat + n)) s u) := by
  refine runsAs_of_pure (g := fun s => (s.setReg r (s.reg r + k)).setNZ (s.reg r + k)) hencodes ?_ ?_ ?_
    (fun t s => ?_) (fun s => hk (s.reg r) ▸ regTakes_setReg_setNZ r (s.reg r + k) s)
  · rw [hform, Form.size]
  · intro s
    rw [hform, Form.cycles]
  · rw [hform, Form.effect]
  · simp only [State.reg_setNip, setReg_setNZ_setNip]

open Laws.EncodeRoundTrip in
/-- Settles O20: the rows of INC and DEC modify their byte of memory, and the other four count their register by 1 or -1. -/
theorem incrementsAndDecrements : Obligations.IncrementsAndDecrements :=
  ⟨⟨incRows_modifiesAs, decRows_modifiesAs⟩,
   runsAs_countReg (encodes_of_roundTrip inx rfl) rfl add_one_eq_ofNat,
   runsAs_countReg (encodes_of_roundTrip iny rfl) rfl add_one_eq_ofNat,
   runsAs_countReg (encodes_of_roundTrip dex rfl) rfl add_neg_one_eq_ofNat,
   runsAs_countReg (encodes_of_roundTrip dey rfl) rfl add_neg_one_eq_ofNat⟩

end Sys2Proof
end

section
/-! PROOFS. AND, ORA, EOR and BIT (43_logic_shift.md R240 to R243). -/

namespace Sys2Proof
open Machine Stated

/-! ## Logic -/

theorem logic_readingShape (op : Byte → Byte → Byte) :
    ReadingShape (.logic op) fun m s => (s.setReg .a (op s.cpu.a m)).setNZ (op s.cpu.a m) where
  size _ _ := rfl
  cycles _ _ _ := rfl
  effect _ _ := rfl
  skipsNip m t s := by rw [State.setNip_cpu_a, setReg_setNZ_setNip]

theorem readsAs_logic {op : Byte → Byte → Byte} {rows : Byte → Word → List ReadRow} (h : ReadRowsHave (.logic op) rows) :
    ReadsAs rows (fun _ => True) (fun s m u => RegTakes .a (op s.cpu.a m) s u) :=
  readsAs_of_shape (logic_readingShape op) h fun _ _ _ _ => regTakes_setReg_setNZ .a _ _

section
open Laws.EncodeRoundTrip

theorem andRows_logic : ReadRowsHave (.logic (· &&& ·)) andRows := by
  intro b w
  simp only [andRows, List.forall_mem_cons, List.not_mem_nil, false_implies, implies_true, and_true]
  exact ⟨⟨encodes_of_roundTrip (andIzx b) rfl, rfl⟩, ⟨encodes_of_roundTrip (andZp b) rfl, rfl⟩,
    ⟨encodes_of_roundTrip (andImm b) rfl, rfl⟩, ⟨encodes_word (andAbs w) rfl, rfl⟩,
    ⟨encodes_of_roundTrip (andIzy b) rfl, rfl⟩, ⟨encodes_of_roundTrip (andZpx b) rfl, rfl⟩,
    ⟨encodes_word (andAby w) rfl, rfl⟩, ⟨encodes_word (andAbx w) rfl, rfl⟩⟩

theorem oraRows_logic : ReadRowsHave (.logic (· ||| ·)) oraRows := by
  intro b w
  simp only [oraRows, List.forall_mem_cons, List.not_mem_nil, false_implies, implies_true, and_true]
  exact ⟨⟨encodes_of_roundTrip (oraIzx b) rfl, rfl⟩, ⟨encodes_of_roundTrip (oraZp b) rfl, rfl⟩,
    ⟨encodes_of_roundTrip (oraImm b) rfl, rfl⟩, ⟨encodes_word (oraAbs w) rfl, rfl⟩,
    ⟨encodes_of_roundTrip (oraIzy b) rfl, rfl⟩, ⟨encodes_of_roundTrip (oraZpx b) rfl, rfl⟩,
    ⟨encodes_word (oraAby w) rfl, rfl⟩, ⟨encodes_word (oraAbx w) rfl, rfl⟩⟩

theorem eorRows_logic : ReadRowsHave (.logic (· ^^^ ·)) eorRows := by
  intro b w
  simp only [eorRows, List.forall_mem_cons, List.not_mem_nil, false_implies, implies_true, and_true]
  exact ⟨⟨encodes_of_roundTrip (eorIzx b) rfl, rfl⟩, ⟨encodes_of_roundTrip (eorZp b) rfl, rfl⟩,
    ⟨encodes_of_roundTrip (eorImm b) rfl, rfl⟩, ⟨encodes_word (eorAbs w) rfl, rfl⟩,
    ⟨encodes_of_roundTrip (eorIzy b) rfl, rfl⟩, ⟨encodes_of_roundTrip (eorZpx b) rfl, rfl⟩,
    ⟨encodes_word (eorAby w) rfl, rfl⟩, ⟨encodes_word (eorAbx w) rfl, rfl⟩⟩

end

/-- Settles O22: every row puts its operation's result in A, with its N and Z. -/
theorem logicOperations : Obligations.LogicOperations :=
  ⟨readsAs_logic andRows_logic, readsAs_logic oraRows_logic, readsAs_logic eorRows_logic⟩

/-! ## The bits of a byte as numbers -/

theorem getLsbD_seven_eq_decide (v : Byte) : v.getLsbD 7 = decide (128 ≤ v.toNat) :=
  (BitVec.msb_eq_getLsbD_last v).symm.trans (msb_eq_decide v)

theorem getLsbD_six_eq_decide (v : Byte) : v.getLsbD 6 = decide (v.toNat / 64 % 2 = 1) :=
  Nat.testBit_eq_decide_div_mod_eq

theorem getLsbD_zero_eq_decide (v : Byte) : v.getLsbD 0 = decide (v.toNat % 2 = 1) :=
  Nat.testBit_zero v.toNat

/-! ## BIT -/

/-- The flags BIT writes with `a` in A and the operand `m` (43_logic_shift.md R243). -/
def bitTestOf (a m : Byte) : Flag → Option Bool
  | .z => some (decide (a &&& m = 0))
  | .n => some (decide (128 ≤ m.toNat))
  | .v => some (decide (m.toNat / 64 % 2 = 1))
  | _ => none

theorem flagsWritten_putBit (a m p : Byte) : FlagsWritten (bitTestOf a m) p (putBit a m p) := by
  intro f
  rw [getFlag_putBit, getLsbD_seven_eq_decide, getLsbD_six_eq_decide]
  cases f <;> rfl

theorem bitTest_readingShape : ReadingShape .bitTest fun m s => s.modifyP (putBit s.cpu.a m) where
  size _ _ := rfl
  cycles _ _ _ := rfl
  effect _ _ := rfl
  skipsNip m t s := by rw [State.setNip_cpu_a, (Unseen.setNip t).modifyP]

open Laws.EncodeRoundTrip in
theorem bitRows_bitTest : ReadRowsHave .bitTest bitRows := by
  intro b w
  simp only [bitRows, List.forall_mem_cons, List.not_mem_nil, false_implies, implies_true, and_true]
  exact ⟨⟨encodes_of_roundTrip (bitZp b) rfl, rfl⟩, ⟨encodes_word (bitAbs w) rfl, rfl⟩⟩

/-- Settles O23: both rows write the flags of `bitTestOf` and no register. -/
theorem bitTest : Obligations.BitTest :=
  readsAs_of_shape bitTest_readingShape bitRows_bitTest fun _ _ m _ => ⟨_, flagsWritten_putBit _ m _, rfl⟩

end Sys2Proof
end

section
/-! PROOFS. ASL, LSR, ROL and ROR, on A and in memory (43_logic_shift.md R244 to R247). -/

namespace Sys2Proof
open Machine Stated

/-! ## One place, as numbers -/

theorem shiftLeft_one_eq_ofNat (v : Byte) : v <<< 1 = BitVec.ofNat 8 (2 * v.toNat) :=
  BitVec.eq_of_toNat_eq (by rw [BitVec.toNat_shiftLeft, BitVec.toNat_ofNat, Nat.shiftLeft_eq, pow_one, Nat.mul_comm])

theorem shiftRight_one_eq_ofNat (v : Byte) : v >>> 1 = BitVec.ofNat 8 (v.toNat / 2) :=
  BitVec.eq_of_toNat_eq (by rw [BitVec.toNat_ushiftRight, BitVec.toNat_ofNat, Nat.shiftRight_one]; omega)

/-- The carry as the byte a rotate shifts in on the right. -/
theorem zeroExtend_ofBool_eq_ofNat (c : Bool) : (BitVec.ofBool c).zeroExtend 8 = BitVec.ofNat 8 c.toNat := by
  cases c <;> rfl

/-- The carry as the byte a rotate shifts in on the left. -/
theorem zeroExtend_ofBool_shiftLeft_eq_ofNat (c : Bool) :
    (BitVec.ofBool c).zeroExtend 8 <<< 7 = BitVec.ofNat 8 (2 ^ 7 * c.toNat) := by
  cases c <;> rfl

/-- The carry lands on the bit the left shift cleared, so joining is adding. -/
theorem rol_result_eq_ofNat (v : Byte) (c : Bool) :
    ModifyOp.rol.result v c = BitVec.ofNat 8 (2 * v.toNat + c.toNat) := by
  have hadd : 2 ^ 1 * v.toNat + c.toNat = 2 ^ 1 * v.toNat ||| c.toNat :=
    Nat.two_pow_add_eq_or_of_lt (Bool.toNat_lt c) _
  rw [pow_one] at hadd
  rw [hadd, BitVec.ofNat_or, ← shiftLeft_one_eq_ofNat, ← zeroExtend_ofBool_eq_ofNat, ModifyOp.result]

/-- The carry lands on the bit the right shift cleared, so joining is adding. -/
theorem ror_result_eq_ofNat (v : Byte) (c : Bool) :
    ModifyOp.ror.result v c = BitVec.ofNat 8 (v.toNat / 2 + 128 * c.toNat) := by
  have hadd : 2 ^ 7 * c.toNat + v.toNat / 2 = 2 ^ 7 * c.toNat ||| v.toNat / 2 :=
    Nat.two_pow_add_eq_or_of_lt (by have := v.isLt; omega) _
  have hcomm : v.toNat / 2 + 128 * c.toNat = v.toNat / 2 ||| 2 ^ 7 * c.toNat := by
    rw [Nat.or_comm, ← hadd]
    omega
  rw [hcomm, BitVec.ofNat_or, ← shiftRight_one_eq_ofNat, ← zeroExtend_ofBool_shiftLeft_eq_ofNat, ModifyOp.result]

/-! ## What a shift does to a byte and the flags -/

/-- A shift or rotate in plain numbers: the byte it makes of a byte and the old carry, and the bit it moves to C. -/
structure ShiftsTo (op : ModifyOp) (result : Nat → Nat → Nat) (out : Byte → Bool) : Prop where
  result (v : Byte) (c : Bool) : op.result v c = BitVec.ofNat 8 (result v.toNat c.toNat)
  carry (v p : Byte) : op.carry v p = out v

theorem asl_shiftsTo : ShiftsTo .asl (fun v _ => 2 * v) fun v => decide (128 ≤ v.toNat) where
  result v _ := shiftLeft_one_eq_ofNat v
  carry v _ := getLsbD_seven_eq_decide v

theorem lsr_shiftsTo : ShiftsTo .lsr (fun v _ => v / 2) fun v => decide (v.toNat % 2 = 1) where
  result v _ := shiftRight_one_eq_ofNat v
  carry v _ := getLsbD_zero_eq_decide v

theorem rol_shiftsTo : ShiftsTo .rol (fun v c => 2 * v + c) fun v => decide (128 ≤ v.toNat) where
  result := rol_result_eq_ofNat
  carry v _ := getLsbD_seven_eq_decide v

theorem ror_shiftsTo : ShiftsTo .ror (fun v c => v / 2 + 128 * c) fun v => decide (v.toNat % 2 = 1) where
  result := ror_result_eq_ofNat
  carry v _ := getLsbD_zero_eq_decide v

/-- The status byte of every modifying operation: N and Z from the result, and C. -/
theorem flagsWritten_status (op : ModifyOp) (v p : Byte) :
    FlagsWritten (nzcOf (op.result v (getFlag .c p)) (op.carry v p)) p (op.status v p) := by
  intro f
  rw [getFlag_modify, msb_eq_decide, beq_zero_eq_decide]
  cases f <;> rfl

section
variable {op : ModifyOp} {result : Nat → Nat → Nat} {out : Byte → Bool}

theorem ShiftsTo.flagsWritten (h : ShiftsTo op result out) (v p : Byte) :
    FlagsWritten (nzcOf (op.result v (getFlag .c p)) (out v)) p (op.status v p) :=
  h.carry v p ▸ flagsWritten_status op v p

theorem modifiesAs_of_shiftsTo (h : ShiftsTo op result out) {rows : Byte → Word → List MemRow}
    (hrows : MemRowsHave (.modifyMem op) rows) : ModifiesAs rows result (fun v r => nzcOf r (out v)) :=
  modifiesAs_of_shape hrows h.result h.flagsWritten

/-- A shift or rotate of A. -/
theorem runsAs_of_shiftsTo (h : ShiftsTo op result out) {opcode : Byte} {i : Instr} {c : Nat} (hencodes : Encodes i [opcode])
    (hform : Form.of i = .modifyAcc op c) :
    RunsAs opcode i c (fun s u => ∃ r q, r = BitVec.ofNat 8 (result s.cpu.a.toNat (s.flag .c).toNat) ∧
      FlagsWritten (nzcOf r (out s.cpu.a)) s.cpu.p q ∧ u = { s with cpu := { s.cpu with a := r, p := q } }) := by
  refine runsAs_of_pure
    (g := fun s => (s.setReg .a (op.result s.cpu.a (s.flag .c))).modifyP (op.status s.cpu.a)) hencodes ?_ ?_ ?_ (fun t s => ?_)
    (fun s => ⟨_, _, h.result s.cpu.a (s.flag .c), h.flagsWritten s.cpu.a s.cpu.p, rfl⟩)
  · rw [hform, Form.size]
  · intro s
    rw [hform, Form.cycles]
  · rw [hform, Form.effect]
  · rw [State.setNip_cpu_a, State.flag_setNip, (Unseen.setNip t).setReg, (Unseen.setNip t).modifyP]

end

/-! ## The rows in memory -/

section
open Laws.EncodeRoundTrip

theorem aslRows_modifyMem : MemRowsHave (.modifyMem .asl) aslRows := by
  intro b w
  simp only [aslRows, List.forall_mem_cons, List.not_mem_nil, false_implies, implies_true, and_true]
  exact ⟨⟨encodes_of_roundTrip (aslZp b) rfl, rfl⟩, ⟨encodes_word (aslAbs w) rfl, rfl⟩,
    ⟨encodes_of_roundTrip (aslZpx b) rfl, rfl⟩, ⟨encodes_word (aslAbx w) rfl, rfl⟩⟩

theorem lsrRows_modifyMem : MemRowsHave (.modifyMem .lsr) lsrRows := by
  intro b w
  simp only [lsrRows, List.forall_mem_cons, List.not_mem_nil, false_implies, implies_true, and_true]
  exact ⟨⟨encodes_of_roundTrip (lsrZp b) rfl, rfl⟩, ⟨encodes_word (lsrAbs w) rfl, rfl⟩,
    ⟨encodes_of_roundTrip (lsrZpx b) rfl, rfl⟩, ⟨encodes_word (lsrAbx w) rfl, rfl⟩⟩

theorem rolRows_modifyMem : MemRowsHave (.modifyMem .rol) rolRows := by
  intro b w
  simp only [rolRows, List.forall_mem_cons, List.not_mem_nil, false_implies, implies_true, and_true]
  exact ⟨⟨encodes_of_roundTrip (rolZp b) rfl, rfl⟩, ⟨encodes_word (rolAbs w) rfl, rfl⟩,
    ⟨encodes_of_roundTrip (rolZpx b) rfl, rfl⟩, ⟨encodes_word (rolAbx w) rfl, rfl⟩⟩

theorem rorRows_modifyMem : MemRowsHave (.modifyMem .ror) rorRows := by
  intro b w
  simp only [rorRows, List.forall_mem_cons, List.not_mem_nil, false_implies, implies_true, and_true]
  exact ⟨⟨encodes_of_roundTrip (rorZp b) rfl, rfl⟩, ⟨encodes_word (rorAbs w) rfl, rfl⟩,
    ⟨encodes_of_roundTrip (rorZpx b) rfl, rfl⟩, ⟨encodes_word (rorAbx w) rfl, rfl⟩⟩

/-- Settles O24: each of the four shifts A and the bytes of its rows by what `ShiftsTo` says of it. -/
theorem shiftsAndRotates : Obligations.ShiftsAndRotates :=
  ⟨⟨runsAs_of_shiftsTo asl_shiftsTo (encodes_of_roundTrip aslAcc rfl) rfl, modifiesAs_of_shiftsTo asl_shiftsTo aslRows_modifyMem⟩,
   ⟨runsAs_of_shiftsTo lsr_shiftsTo (encodes_of_roundTrip lsrAcc rfl) rfl, modifiesAs_of_shiftsTo lsr_shiftsTo lsrRows_modifyMem⟩,
   ⟨runsAs_of_shiftsTo rol_shiftsTo (encodes_of_roundTrip rolAcc rfl) rfl, modifiesAs_of_shiftsTo rol_shiftsTo rolRows_modifyMem⟩,
   ⟨runsAs_of_shiftsTo ror_shiftsTo (encodes_of_roundTrip rorAcc rfl) rfl, modifiesAs_of_shiftsTo ror_shiftsTo rorRows_modifyMem⟩⟩

end

end Sys2Proof
end

section
/-! PROOFS. JSR and RTS: an instruction that writes NIP whatever it was, and the two stack bytes each of them moves
(44_control_flow.md R261, R262). -/

namespace Sys2Proof
open Machine Stated

/-! ## The frame of an instruction that writes NIP -/

/-- An effect that does not look at NIP and writes it, so that the nominal advance is lost. -/
def OverwritesNip (e : Effect) : Prop := ∀ t s, e (s.setNip t) = e s

theorem exec_of_overwritesNip_ok {i : Instr} {s u : State} {target : Word} {n extra : Nat}
    (hi : OverwritesNip (Form.of i).effect) (h : (Form.of i).effect s = .ok (u.setNip target, extra))
    (hn : target = BitVec.ofNat 16 n) : exec i s = .next (jumped n ((Form.of i).cycles s + extra) u) := by
  subst hn
  exact exec_next.mpr ⟨_, extra, (hi _ s).trans h, rfl⟩

theorem exec_of_overwritesNip_error {i : Instr} {s : State} {f : Fault} (hi : OverwritesNip (Form.of i).effect)
    (h : (Form.of i).effect s = .error f) : exec i s = .fault f :=
  exec_fault.mpr ((hi _ s).trans h)

theorem call_effect_overwritesNip (c : Nat) (w : Word) : OverwritesNip (Form.call c w).effect := by
  intro t s
  simp only [Form.effect, (Unseen.setNip t).returnAddr, (Unseen.setNip t).push, bind]
  cases push (highByte (returnAddr s)) s with
  | error f => rfl
  | ok u =>
    simp only [Except.map, Except.bind, (Unseen.setNip t).push]
    cases push (lowByte (returnAddr s)) u <;> rfl

theorem returnSub_effect_overwritesNip (c : Nat) : OverwritesNip (Form.returnSub c).effect := by
  intro t s
  simp only [Form.effect, (Unseen.setNip t).pullWord, bind]
  cases pullWord s <;> rfl

/-! ## The stack byte after SP has moved

No access notices SP, so a second push or pull is the access at the new stack byte, made from the state the first access left. -/

theorem stackByte_congr {s u : State} (h : u.cfg = s.cfg) (sp : Byte) : stackByte u sp = stackByte s sp := by
  rw [stackByte, h, stackByte]

section
variable {s t : State} {sp v : Byte} {f : Fault}

theorem push_setReg_sp (h : busWrite (stackByte s sp) v s = .ok t) :
    push v (s.setReg .sp sp) = .ok (t.setReg .sp (sp - 1)) := by
  have hw : busWrite (stackByte s sp) v (s.setReg .sp sp) = .ok (t.setReg .sp sp) := by
    rw [(OffBus.setReg .sp sp).busWrite, h, Except.map]
  exact push_of_busWrite (s := s.setReg .sp sp) (u := t.setReg .sp sp) hw

theorem push_setReg_sp_error (h : busWrite (stackByte s sp) v s = .error f) :
    push v (s.setReg .sp sp) = .error (.busFault (stackByte s sp)) := by
  have hw : busWrite (stackByte s sp) v (s.setReg .sp sp) = .error f := by
    rw [(OffBus.setReg .sp sp).busWrite, h, Except.map]
  exact push_of_busWrite_error hw

theorem pull_setReg_sp (h : busRead (stackByte s (sp + 1)) s = .ok (v, t)) :
    pull (s.setReg .sp sp) = .ok (v, t.setReg .sp (sp + 1)) := by
  have hr : busRead (stackByte s (sp + 1)) (s.setReg .sp sp) = .ok (v, t.setReg .sp sp) := by
    rw [(OffBus.setReg .sp sp).busRead, h, thenState]
  exact pull_of_busRead (s := s.setReg .sp sp) (u := t.setReg .sp sp) hr

theorem pull_setReg_sp_error (h : busRead (stackByte s (sp + 1)) s = .error f) :
    pull (s.setReg .sp sp) = .error (.busFault (stackByte s (sp + 1))) := by
  have hr : busRead (stackByte s (sp + 1)) (s.setReg .sp sp) = .error f := by
    rw [(OffBus.setReg .sp sp).busRead, h, thenState]
  exact pull_of_busRead_error hr

end

/-! ## JSR -/

theorem lowByte_eq_ofNat (w : Word) : lowByte w = BitVec.ofNat 8 w.toNat :=
  (List.cons.inj (wordBytes_eq_memBytes w)).1

theorem highByte_eq_ofNat (w : Word) : highByte w = BitVec.ofNat 8 (w.toNat / 256) :=
  (List.cons.inj (List.cons.inj (wordBytes_eq_memBytes w)).2).1

theorem returnAddr_toNat (s : State) : (returnAddr s).toNat = (s.cpu.ip.toNat + 2) % 65536 :=
  BitVec.toNat_add _ _

section
variable {w : Word} {s : State} {f : Fault}

theorem exec_jsr_of_push {t u : State} (hhigh : push (highByte (returnAddr s)) s = .ok t)
    (hlow : push (lowByte (returnAddr s)) t = .ok u) : exec (.jsr w) s = .next (jumped w.toNat 6 u) :=
  exec_of_overwritesNip_ok (i := .jsr w) (call_effect_overwritesNip 6 w)
    (bind_ok.mpr ⟨t, hhigh, bind_ok.mpr ⟨u, hlow, rfl⟩⟩) (by rw [BitVec.ofNat_toNat, BitVec.setWidth_eq])

theorem exec_jsr_of_high_error (hhigh : push (highByte (returnAddr s)) s = .error f) : exec (.jsr w) s = .fault f :=
  exec_of_overwritesNip_error (call_effect_overwritesNip 6 w) (bind_error.mpr (.inl hhigh))

theorem exec_jsr_of_low_error {t : State} (hhigh : push (highByte (returnAddr s)) s = .ok t)
    (hlow : push (lowByte (returnAddr s)) t = .error f) : exec (.jsr w) s = .fault f :=
  exec_of_overwritesNip_error (call_effect_overwritesNip 6 w)
    (bind_error.mpr (.inr ⟨t, hhigh, bind_error.mpr (.inl hlow)⟩))

end

/-- Settles O26: the two pushes in turn, the second at SP - 1 from the state the first leaves. -/
theorem jumpToSubroutine : Obligations.JumpToSubroutine := by
  intro w s ret hi lo hret hhi hlo
  obtain rfl : hi = highByte (returnAddr s) := by rw [hhi, hret, highByte_eq_ofNat, returnAddr_toNat]
  obtain rfl : lo = lowByte (returnAddr s) := by rw [hlo, hret, lowByte_eq_ofNat, returnAddr_toNat]
  refine ⟨encodes_word (Laws.EncodeRoundTrip.jsr w) rfl, fun u hu => ⟨stored_of_busWrite hu, ?_⟩,
    fun f hf => exec_jsr_of_high_error (push_of_busWrite_error hf)⟩
  have hhigh := push_of_busWrite hu
  have hsp : s.cpu.sp - 1 - 1 = s.cpu.sp - 2 := sub_sub _ _ _
  rw [← stackByte_congr (Kept.busWrite hu).cfg (s.cpu.sp - 1), ← hsp]
  exact ⟨fun v hv => ⟨stored_of_busWrite hv, exec_jsr_of_push hhigh (push_setReg_sp hv)⟩,
    fun f hf => exec_jsr_of_low_error hhigh (push_setReg_sp_error hf)⟩

/-! ## RTS -/

/-- The word after the one pulled, in plain numbers. -/
theorem wordOf_add_one_eq_ofNat (lo hi : Byte) : wordOf lo hi + 1 = BitVec.ofNat 16 (lo.toNat + 256 * hi.toNat + 1) := by
  rw [wordOf_eq_ofNat]
  exact (BitVec.ofNat_add _ 1).symm

section
variable {s : State} {lo : Byte} {f : Fault}

theorem exec_rts_of_pull {hi : Byte} {t u : State} (hlow : pull s = .ok (lo, t)) (hhigh : pull t = .ok (hi, u)) :
    exec .rts s = .next (jumped (lo.toNat + 256 * hi.toNat + 1) 6 u) :=
  exec_of_overwritesNip_ok (i := .rts) (returnSub_effect_overwritesNip 6)
    (bind_ok.mpr ⟨_, pullWord_ok.mpr ⟨lo, hi, t, hlow, hhigh, rfl⟩, rfl⟩) (wordOf_add_one_eq_ofNat lo hi)

theorem exec_rts_of_low_error (hlow : pull s = .error f) : exec .rts s = .fault f :=
  exec_of_overwritesNip_error (returnSub_effect_overwritesNip 6) (bind_error.mpr (.inl (bind_error.mpr (.inl hlow))))

theorem exec_rts_of_high_error {t : State} (hlow : pull s = .ok (lo, t)) (hhigh : pull t = .error f) :
    exec .rts s = .fault f :=
  exec_of_overwritesNip_error (returnSub_effect_overwritesNip 6)
    (bind_error.mpr (.inl (bind_error.mpr (.inr ⟨_, hlow, bind_error.mpr (.inl hhigh)⟩))))

end

/-- Settles O27: the two pulls in turn, the second at SP + 2 from the state the first leaves. -/
theorem returnFromSubroutine : Obligations.ReturnFromSubroutine := by
  refine ⟨encodes_of_roundTrip Laws.EncodeRoundTrip.rts rfl, fun s => ?_⟩
  have hsp : s.cpu.sp + 2 = s.cpu.sp + 1 + 1 := (BitVec.add_assoc _ 1 1).symm
  have hat {lo u} (h : busRead (stackByte s (s.cpu.sp + 1)) s = .ok (lo, u)) :
      stackByte s (s.cpu.sp + 1 + 1) = stackByte u (s.cpu.sp + 1 + 1) :=
    (stackByte_congr (Kept.bus (busRead_frame h)).cfg _).symm
  rw [hsp]
  refine ⟨fun lo hi u v hlo hhi => ?_, fun f hf => ?_, fun lo u f hlo hf => ?_⟩
  · rw [hat hlo] at hhi
    exact exec_rts_of_pull (pull_of_busRead hlo) (pull_setReg_sp hhi)
  · rw [(busRead_names hf).1]
    exact exec_rts_of_low_error (pull_of_busRead_error hf)
  · rw [hat hlo] at hf
    rw [(busRead_names hf).1]
    exact exec_rts_of_high_error (pull_of_busRead hlo) (pull_setReg_sp_error hf)

end Sys2Proof
end

section
/-! PROOFS. The flag instructions (45_stack_flags.md R294 to R300). -/

namespace Sys2Proof
open Machine Stated

/-- `putFlag` in the statements' words (40_cpu_engine.md R173). -/
theorem flagsWritten_putFlag (g : Flag) (v : Bool) (p : Byte) : FlagsWritten (only g v) p (putFlag g v p) := by
  intro f
  rw [getFlag_putFlag, only]
  by_cases hf : f = g
  · rw [if_pos hf, if_pos hf, Option.getD_some]
  · rw [if_neg hf, if_neg hf, Option.getD_none]

theorem runsAs_writeFlag {op : Byte} {i : Instr} {g : Flag} {v : Bool} {c : Nat} (hencodes : Encodes i [op])
    (hform : Form.of i = .writeFlag g v c) : RunsAs op i c (fun s u => FlagsTake (only g v) s u) := by
  refine runsAs_of_pure (g := State.setFlag g v) hencodes ?_ ?_ ?_
    (fun t _ => (Unseen.setNip t).modifyP _ _) (fun s => ⟨_, flagsWritten_putFlag g v s.cpu.p, rfl⟩)
  · rw [hform, Form.size]
  · intro s
    rw [hform, Form.cycles]
  · rw [hform, Form.effect]

open Laws.EncodeRoundTrip in
/-- Settles O33: each of the seven writes its one flag. -/
theorem flagInstructions : Obligations.FlagInstructions := by
  simp only [Obligations.FlagInstructions, flagRows, List.forall_mem_cons, List.not_mem_nil, false_implies, implies_true,
    and_true]
  exact ⟨runsAs_writeFlag (encodes_of_roundTrip clc rfl) rfl, runsAs_writeFlag (encodes_of_roundTrip sec rfl) rfl,
    runsAs_writeFlag (encodes_of_roundTrip cli rfl) rfl, runsAs_writeFlag (encodes_of_roundTrip sei rfl) rfl,
    runsAs_writeFlag (encodes_of_roundTrip cld rfl) rfl, runsAs_writeFlag (encodes_of_roundTrip sed rfl) rfl,
    runsAs_writeFlag (encodes_of_roundTrip clv rfl) rfl⟩

end Sys2Proof
end

section
/-! PROOFS. The playfield registers (47_tia_registers.md R335 to R337): the 20 bits after each write, bit by bit. -/

namespace Sys2Proof
open Machine

/-- R335: the upper nibble, not reversed, below the 16 bits kept. -/
theorem getLsbD_putPf0 (v : Byte) (pf : BitVec 20) {i : Nat} (hi : i < 20) :
    (putPf0 v pf).getLsbD i = if i < 4 then v.getLsbD (4 + i) else pf.getLsbD i := by
  refine (BitVec.getLsbD_append (x := pf.extractLsb' 4 16) (y := v.extractLsb' 4 4)).trans ?_
  by_cases h : i < 4
  · simp [h]
  · have hkept : i - 4 < 16 ∧ 4 + (i - 4) = i := by omega
    simp [h, hkept]

/-- R336: the whole byte, its top bit leftmost, between the 4 and the 8 bits kept. -/
theorem getLsbD_putPf1 (v : Byte) (pf : BitVec 20) {i : Nat} (hi : i < 20) :
    (putPf1 v pf).getLsbD i = if 4 ≤ i ∧ i < 12 then v.getLsbD (7 - (i - 4)) else pf.getLsbD i := by
  refine (BitVec.getLsbD_append (x := pf.extractLsb' 12 8 ++ v.reverse) (y := pf.extractLsb' 0 4)).trans ?_
  rw [BitVec.getLsbD_append]
  by_cases hlow : i < 4
  · simp [hlow, Nat.not_le.mpr hlow]
  · by_cases hmid : i < 12
    · have hwritten : i - 4 < 8 := by omega
      rw [if_neg hlow, if_pos hwritten, if_pos ⟨Nat.not_lt.mp hlow, hmid⟩, BitVec.getLsbD_reverse, BitVec.getMsbD_eq_getLsbD]
      simp [hwritten]
    · have hkept : ¬ i - 4 < 8 ∧ i - 4 - 8 < 8 ∧ 12 + (i - 4 - 8) = i := by omega
      simp [hlow, hmid, hkept]

/-- R337: the whole byte, not reversed, above the 12 bits kept. -/
theorem getLsbD_putPf2 (v : Byte) (pf : BitVec 20) (i : Nat) :
    (putPf2 v pf).getLsbD i = if 12 ≤ i then v.getLsbD (i - 12) else pf.getLsbD i := by
  refine (BitVec.getLsbD_append (x := v) (y := pf.extractLsb' 0 12)).trans ?_
  by_cases h : 12 ≤ i
  · simp [h, Nat.not_lt.mpr h]
  · simp [h, Nat.lt_of_not_le h]

/-- Settles O54: each write is one of the three `putPf` on `pf` alone, read bit by bit. -/
theorem playfieldRegisters : Obligations.PlayfieldRegisters := fun _ t v =>
  ⟨⟨putPf0 v t.pf, rfl, fun _ => getLsbD_putPf0 v t.pf⟩, ⟨putPf1 v t.pf, rfl, fun _ => getLsbD_putPf1 v t.pf⟩,
    ⟨putPf2 v t.pf, rfl, fun i _ => getLsbD_putPf2 v t.pf i⟩⟩

end Sys2Proof
end

section
/-! PROOFS. The encoding, both ways (30_encoding.md R100 to R110): the decoder gives back what was encoded, and bytes that decode are an encoding. -/

namespace Sys2Proof

/-- The instruction a row of the table gives for a byte operand `b` and a word operand `w`, of which it takes the one of its format. -/
def Format.instr (b : Byte) (w : Word) : Format → Instr
  | .f1 i => i
  | .f2 mk => mk b
  | .f3 mk => mk w

/-- The operand bytes of a row's format (30_encoding.md R101). -/
def Format.operandBytes (b : Byte) (w : Word) : Format → List Byte
  | .f1 _ => []
  | .f2 _ => [b]
  | .f3 _ => wordBytes w

/-- The table and the encoder agree, row by row: the encoder writes the opcode whose row the instruction is, and the operand. -/
theorem encode_formatOf (op b : Byte) (w : Word) :
    encode ((formatOf op).instr b w) = op :: (formatOf op).operandBytes b w := by
  obtain ⟨n, hn, rfl⟩ : ∃ n < 256, op = BitVec.ofNat 8 n := ⟨op.toNat, op.isLt, by simp⟩
  interval_cases n <;> rfl

/-- Bytes that decode are the encoding of the instruction decoded, and what is left over. -/
theorem eq_encode_append_of_decode {bs rest : List Byte} {i : Instr} (h : decode bs = .ok (i, rest)) :
    bs = encode i ++ rest := by
  cases bs with
  | nil => cases h
  | cons op bs =>
    have hrow := encode_formatOf op
    cases hf : formatOf op with
    | f1 j =>
      rw [hf] at hrow
      simp only [decode, hf] at h
      cases h
      exact (congrArg (· ++ rest) (hrow 0 0)).symm
    | f2 mk =>
      rw [hf] at hrow
      match bs with
      | [] => simp [decode, hf] at h
      | b :: bs =>
        simp only [decode, hf] at h
        cases h
        exact (congrArg (· ++ rest) (hrow b 0)).symm
    | f3 mk =>
      rw [hf] at hrow
      match bs with
      | [] | [_] => simp [decode, hf] at h
      | lo :: hi :: bs =>
        simp only [decode, hf] at h
        cases h
        have hbytes := hrow 0 (wordOf lo hi)
        simp only [Format.instr, Format.operandBytes, wordBytes, lowByte_wordOf, highByte_wordOf] at hbytes
        rw [hbytes]
        rfl

theorem decode_three_bytes (op b1 b2 : Byte) : ∃ i rest, decode [op, b1, b2] = .ok (i, rest) := by
  cases hf : formatOf op with
  | f1 i => exact ⟨i, [b1, b2], by simp only [decode, hf]⟩
  | f2 mk => exact ⟨mk b1, [b2], by simp only [decode, hf]⟩
  | f3 mk => exact ⟨mk (wordOf b1 b2), [], by simp only [decode, hf]⟩

open Laws.EncodeRoundTrip in
/-- The round trip of every instruction: a three-byte row by the two bytes of its word, any other by evaluating the table. -/
theorem encodeRoundTrip (i : Instr) : Statement i := by
  cases i with
  | adcAbs w | adcAby w | adcAbx w | andAbs w | andAby w | andAbx w | aslAbs w | aslAbx w | bitAbs w | cmpAbs w | cmpAby w | cmpAbx w
  | cpxAbs w | cpyAbs w | decAbs w | decAbx w | eorAbs w | eorAby w | eorAbx w | incAbs w | incAbx w | jmpAbs w | jmpInd w | jsr w
  | ldaAbs w | ldaAby w | ldaAbx w | ldxAbs w | ldxAby w | ldyAbs w | ldyAbx w | lsrAbs w | lsrAbx w | oraAbs w | oraAby w | oraAbx w
  | rolAbs w | rolAbx w | rorAbs w | rorAbx w | sbcAbs w | sbcAby w | sbcAbx w | staAbs w | staAby w | staAbx w | stxAbs w
  | styAbs w => exact fun _ rest => three_bytes rfl w rest
  | _ => exact fun _ _ => rfl

/-- Settles O1: the round trip of each instruction. -/
theorem decodeInvertsEncode : Obligations.DecodeInvertsEncode := encodeRoundTrip

/-- Settles O2: by the format of the first byte's row, whose encoding is `encode_formatOf`. -/
theorem encodeInvertsDecode : Obligations.EncodeInvertsDecode :=
  ⟨fun _ _ _ h => eq_encode_append_of_decode h, decode_three_bytes⟩

end Sys2Proof
end

section
/-! PROOFS. The TIA's clock (48_tia_compositor.md R380 to R382): what a tick does, and that the scanline and the run to a clock value are ticks. -/

namespace Sys2Proof
open Machine Stated

/-- Settles O48: a tick is a draw and the next clock value, and a draw is nothing in horizontal blank and one column after it. -/
theorem clockTick : Obligations.ClockTick := by
  intro t
  refine ⟨_, Tia.nextClockTick_eq t, rfl, (Tia.draw_sameRegisters t).trans rfl, fun hblank => ?_, fun c hc => ?_⟩
  · rw [Tia.draw, dif_neg (by omega)]
  · have hcol : (⟨t.colorClock.val - 68, by omega⟩ : Fin 160) = c := Fin.ext (by simp [hc])
    have hdraw : t.draw = t.drawColumn c := by
      rw [Tia.draw, dif_pos (by omega), hcol]
    exact ⟨congrArg Tia.scanline hdraw, fun p => by simp [hdraw, Tia.drawColumn]⟩

/-! ## Ticks in a row -/

theorem ticks_clock (n : Nat) (t : Tia) : (ticks n t).colorClock.val = (t.colorClock.val + n) % 228 := by
  induction n generalizing t with
  | zero => exact (Nat.mod_eq_of_lt t.colorClock.isLt).symm
  | succ n ih =>
    rw [ticks, ih, Tia.nextClockTick_clock]
    omega

theorem ticks_sameRegisters (n : Nat) (t : Tia) : t.SameRegisters (ticks n t) := by
  induction n generalizing t with
  | zero => exact .refl t
  | succ n ih => exact t.nextClockTick_sameRegisters.trans (ih _)

/-- What ticks within one line draw: the columns from the clock they start with to the one they end before. -/
theorem ticks_scanline {n : Nat} {t : Tia} (h : t.colorClock.val + n ≤ 228) (c : Fin 160) :
    (ticks n t).scanline[c] =
      if t.colorClock.val ≤ 68 + c.val ∧ 68 + c.val < t.colorClock.val + n then t.colourAt c else t.scanline[c] := by
  induction n generalizing t with
  | zero => rw [if_neg (by omega), ticks]
  | succ n ih =>
    have hclock := t.nextClockTick_clock
    have hdrawn : t.nextClockTick.1.scanline[c] = if t.colorClock.val = c.val + 68 then t.colourAt c else t.scanline[c] := by
      rw [Tia.nextClockTick_eq]
      exact t.draw_scanline c
    rw [ticks, ih (by omega), hdrawn, t.nextClockTick_sameRegisters.colourAt, ← ite_or]
    exact if_congr (by omega) rfl rfl

/-- A tick latches the pairs on at the column it draws, and forgets none. -/
theorem nextClockTick_has (t : Tia) (p : Pair) :
    t.nextClockTick.1.collisions.has p = true ↔ t.collisions.has p = true ∨
      ∃ c : Fin 160, t.colorClock.val = 68 + c.val ∧ (t.onAt c).get p.objects.1 = true ∧ (t.onAt c).get p.objects.2 = true := by
  rw [Tia.nextClockTick_eq, t.draw_has, Bool.or_eq_true]
  refine or_congr_right ?_
  split
  · rename_i hvisible
    rw [Bool.and_eq_true]
    constructor
    · exact fun hon => ⟨_, by simp only; omega, hon⟩
    · rintro ⟨c, hc, hon⟩
      have hcol : c = ⟨t.colorClock.val - 68, by omega⟩ := Fin.ext (by simp only; omega)
      exact hcol ▸ hon
  · rename_i hblank
    simp only [Bool.false_eq_true, false_iff]
    rintro ⟨c, hc, -⟩
    omega

/-- What ticks within one line latch: every pair on at a column they draw; and they forget none. -/
theorem ticks_has {n : Nat} {t : Tia} (h : t.colorClock.val + n ≤ 228) (p : Pair) :
    (ticks n t).collisions.has p = true ↔ t.collisions.has p = true ∨
      ∃ c : Fin 160, (t.colorClock.val ≤ 68 + c.val ∧ 68 + c.val < t.colorClock.val + n) ∧
        (t.onAt c).get p.objects.1 = true ∧ (t.onAt c).get p.objects.2 = true := by
  induction n generalizing t with
  | zero => simp [ticks]
  | succ n ih =>
    have hclock := t.nextClockTick_clock
    have hcolumns : ∀ c : Fin 160, (t.colorClock.val ≤ 68 + c.val ∧ 68 + c.val < t.colorClock.val + (n + 1)) ↔
        t.colorClock.val = 68 + c.val ∨
        (t.nextClockTick.1.colorClock.val ≤ 68 + c.val ∧ 68 + c.val < t.nextClockTick.1.colorClock.val + n) := by
      omega
    simp only [ticks, ih (t := t.nextClockTick.1) (by omega), nextClockTick_has, t.nextClockTick_sameRegisters.onAt, hcolumns, or_and_right,
      exists_or, or_assoc]

/-! ## The scanline and the run to a clock value as ticks -/

theorem tickToLineEnd_eq_ticks {fuel : Nat} {t : Tia} (h : 228 ≤ t.colorClock.val + fuel) :
    t.tickToLineEnd fuel = ticks (228 - t.colorClock.val) t := by
  induction fuel generalizing t with
  | zero => omega
  | succ fuel ih =>
    have hclock := t.nextClockTick_clock
    have hdone : t.nextClockTick.2 = decide (t.colorClock.val = 227) := by rw [Tia.nextClockTick_eq]
    by_cases hlast : t.colorClock.val = 227
    · simp [Tia.tickToLineEnd, hdone, hlast, ticks]
    · have hleft : 228 - t.colorClock.val = (228 - t.nextClockTick.1.colorClock.val) + 1 := by omega
      simp only [Tia.tickToLineEnd, hdone, hlast, decide_false, Bool.false_eq_true, if_false]
      rw [hleft, ticks, ih (by omega)]

theorem renderScanline_eq_ticks (t : Tia) : t.renderScanline = ticks (228 - t.colorClock.val) t :=
  tickToLineEnd_eq_ticks (by omega)

theorem tickToClock_eq_ticks {target : Fin 228} {fuel : Nat} {t : Tia} (h : (target.val + 228 - t.colorClock.val) % 228 ≤ fuel) :
    t.tickToClock target fuel = ticks ((target.val + 228 - t.colorClock.val) % 228) t := by
  have htarget := target.isLt
  induction fuel generalizing t with
  | zero => rw [Nat.le_zero.mp h]; rfl
  | succ fuel ih =>
    have hclock := t.nextClockTick_clock
    by_cases hthere : t.colorClock = target
    · have hnone : (target.val + 228 - t.colorClock.val) % 228 = 0 := by rw [hthere]; omega
      rw [Tia.tickToClock, if_pos hthere, hnone, ticks]
    · have hne : t.colorClock.val ≠ target.val := fun hv => hthere (Fin.ext hv)
      have hleft : (target.val + 228 - t.colorClock.val) % 228 =
          (target.val + 228 - t.nextClockTick.1.colorClock.val) % 228 + 1 := by omega
      rw [Tia.tickToClock, if_neg hthere, hleft, ticks, ih (by omega)]

/-- Settles O50: the ticks up to the target are fewer than the 227 allowed, and the clock has then gone on by as many. -/
theorem runToClockStopsAtTarget : Obligations.RunToClockStopsAtTarget := by
  intro t target
  have hticks : t.runToClock target = ticks ((target.val + 228 - t.colorClock.val) % 228) t := tickToClock_eq_ticks (by omega)
  refine ⟨hticks, Fin.ext ?_⟩
  rw [hticks, ticks_clock]
  omega

/-- Settles O49: the scanline is the ticks that are left of the line. -/
theorem renderScanlineDrawsTheRestOfTheLine : Obligations.RenderScanlineDrawsTheRestOfTheLine := by
  intro t
  have hline : t.colorClock.val + (228 - t.colorClock.val) ≤ 228 := by omega
  have hin : ∀ c : Fin 160, 68 + c.val < t.colorClock.val + (228 - t.colorClock.val) := by omega
  have hclock : (ticks (228 - t.colorClock.val) t).colorClock = 0 := Fin.ext (by rw [ticks_clock]; simp only [Fin.val_zero]; omega)
  refine ⟨_, renderScanline_eq_ticks t, ?_, fun c => ?_, fun p => ?_⟩
  · have hsame := ticks_sameRegisters (228 - t.colorClock.val) t
    rwa [Tia.SameRegisters, hclock] at hsame
  · rw [ticks_scanline hline]
    simp only [hin, and_true]
  · rw [ticks_has hline]
    simp only [hin, and_true]

end Sys2Proof
end

section
/-! PROOFS. The TIA's compositor (48_tia_compositor.md R384 to R390): priority, the playfield's halves and the spans of the sprites. -/

namespace Sys2Proof
open Machine Stated

/-! ## Priority -/

/-- Settles O51: the compositor's last object on is the first of the list read the other way, with the playfield at the end its priority gives it. -/
theorem colourPriority : Obligations.ColourPriority := by
  intro t c
  cases hpf : t.pfPriority <;> simp [Tia.colourAt, Tia.pfColour, firstOn, hpf]

/-! ## The playfield -/

/-- Settles O52: the block of a column in the right half is that of its mate in the left. -/
theorem playfieldHalves : Obligations.PlayfieldHalves := by
  intro t
  refine ⟨fun i c hlow hhigh => ?_, fun c d hc => ⟨fun hm hd => ?_, fun hm hd => ?_⟩⟩
  all_goals simp only [Tia.pfOn, Tia.pfIndex]
  · have hblock : c.val / 4 = i.val := by omega
    rw [if_pos (by omega), hblock]
  · have hblock : d.val - 80 = c.val := by omega
    rw [if_neg (by omega), if_neg (by simp [hm]), if_pos hc, hblock]
  · have hblock : 159 - d.val = c.val := by omega
    rw [if_neg (by omega), if_pos hm, if_pos hc, hblock]

/-! ## Sprites -/

theorem factor_toNat_pos (f : Factor) : 0 < f.toNat := by
  cases f <;> decide

section
variable {size : Nat} (s : Sprite size) (c : Fin 160)

theorem copyDrawn_iff (k : Nat) :
    s.copyDrawn k c = true ↔ s.copyStart k ≤ c.val ∧ c.val < s.copyStart k + s.width ∧
      s.patternBit ((c.val - s.copyStart k) / s.scale.toNat) = true := by
  simp [Sprite.copyDrawn, and_assoc]

/-- Every copy starts at or after the sprite's position, so the compositor's first test leaves out no copy. -/
theorem drawn_iff : s.drawn c = true ↔ s.delayed = false ∧ ∃ k < s.copies.toNat, s.copyDrawn k c = true := by
  have hright : (∃ k < s.copies.toNat, s.copyDrawn k c = true) → s.x.val ≤ c.val := by
    rintro ⟨k, -, hk⟩
    exact Nat.le_trans (Nat.le_add_right _ _) ((copyDrawn_iff s c k).mp hk).1
  have hdrawn : s.drawn c = true ↔ (s.x.val ≤ c.val ∧ s.delayed = false) ∧ ∃ k < s.copies.toNat, s.copyDrawn k c = true := by
    simp [Sprite.drawn]
  rw [hdrawn, and_assoc, and_iff_right_of_imp fun h => hright h.2]

/-- A copy ends before the next one starts, because the spacing is at least 1. -/
theorem copyStart_add_width_le {j k : Nat} (h : j < k) : s.copyStart j + s.width ≤ s.copyStart k := by
  have hpitch : s.width ≤ s.width * s.spacing.toNat := Nat.le_mul_of_pos_right _ (factor_toNat_pos _)
  have hcopies : (j + 1) * (s.width * s.spacing.toNat) ≤ k * (s.width * s.spacing.toNat) := Nat.mul_le_mul_right _ h
  rw [Nat.succ_mul] at hcopies
  unfold Sprite.copyStart
  omega

theorem copyDrawn_unique {j k : Nat} (hj : s.copyDrawn j c = true) (hk : s.copyDrawn k c = true) : j = k := by
  obtain ⟨hj₁, hj₂, -⟩ := (copyDrawn_iff s c j).mp hj
  obtain ⟨hk₁, hk₂, -⟩ := (copyDrawn_iff s c k).mp hk
  rcases Nat.lt_trichotomy j k with h | h | h
  · have := copyStart_add_width_le s h
    omega
  · exact h
  · have := copyStart_add_width_le s h
    omega

end

/-- A copy of a player, in the statements' words. -/
theorem copyDrawn_player_iff (p : Sprite 8) (c : Fin 160) (k : Nat) :
    p.copyDrawn k c = true ↔ ∃ start q : Nat, start = p.x.val + k * (8 * p.scale.toNat * p.spacing.toNat) ∧
      start ≤ c.val ∧ c.val < start + 8 * p.scale.toNat ∧ q = (c.val - start) / p.scale.toNat ∧
      p.bits.getLsbD (if p.mirror then q else 7 - q) = true := by
  have hbit : ∀ q, p.patternBit q = p.bits.getLsbD (if p.mirror then q else 7 - q) := fun q => by
    rw [Sprite.patternBit, apply_ite p.bits.getLsbD]
  rw [copyDrawn_iff, hbit]
  constructor
  · exact fun ⟨hlow, hhigh, hon⟩ => ⟨_, _, rfl, hlow, hhigh, rfl, hon⟩
  · rintro ⟨_, _, rfl, hlow, hhigh, rfl, hon⟩
    exact ⟨hlow, hhigh, hon⟩

/-- A missile or the ball is one block, all of it showing its one bit. -/
theorem drawn_single_iff {m : Sprite 1} (hm : m.legalSingle) (c : Fin 160) :
    m.drawn c = true ↔ m.delayed = false ∧ m.bits = 1 ∧ m.x.val ≤ c.val ∧ c.val < m.x.val + m.scale.toNat := by
  obtain ⟨hcopies, -, hmirror⟩ := hm
  have hcopy : m.copyDrawn 0 c = true ↔ m.x.val ≤ c.val ∧ c.val < m.x.val + m.scale.toNat ∧ m.bits.getLsbD 0 = true := by
    simp [copyDrawn_iff, Sprite.copyStart, Sprite.width, Sprite.patternBit, hmirror]
  have hbits : m.bits.getLsbD 0 = true ↔ m.bits = 1 := by
    generalize m.bits = bits
    decide +revert
  have hone : (∃ k < m.copies.toNat, m.copyDrawn k c = true) ↔ m.copyDrawn 0 c = true := by
    simp [hcopies, Copies.toNat]
  rw [drawn_iff, hone, hcopy, hbits]
  tauto

/-- Settles O53: what each copy draws, that copies are apart, and the one block of a missile or the ball. -/
theorem spriteSpans : Obligations.SpriteSpans := by
  refine ⟨fun p c => ?_, fun p c j k hj hk => copyDrawn_unique p c hj hk, fun m c hm => drawn_single_iff hm c⟩
  simp only [drawn_iff, copyDrawn_player_iff, exists_and_left]

end Sys2Proof
end

section
/-! PROOFS. The TIA's registers (47_tia_registers.md): the fields of a written byte in plain numbers, what each write changes, and what the ports ignore. -/

namespace Sys2Proof
open Machine Stated

/-! ## The fields of a written byte as numbers -/

theorem getLsbD_eq_decide (v : Byte) (k : Nat) : v.getLsbD k = decide (v.toNat / 2 ^ k % 2 = 1) := Nat.testBit_eq_decide_div_mod_eq

theorem enableBit_eq_ofNat (v : Byte) : v.extractLsb' 1 1 = BitVec.ofNat 1 (v.toNat / 2) := by
  refine BitVec.eq_of_toNat_eq ?_
  rw [BitVec.extractLsb'_toNat, BitVec.toNat_ofNat, Nat.shiftRight_eq_div_pow, pow_one]

/-- The eight player geometries, code by code (47_tia_registers.md R373). -/
theorem geometryTable_eq (n : BitVec 3) :
    geometryTable[n.toNat]? = some ((geometry n).1.toNat, (geometry n).2.1.toNat, (geometry n).2.2.toNat) := by
  decide +revert

theorem setGeometry_takesGeometry (v : Byte) (p : Sprite 8) : TakesGeometry (v.toNat % 8) p (p.setGeometry (v.extractLsb' 0 3)) := by
  refine ⟨rfl, ?_⟩
  have hcode : (v.extractLsb' 0 3).toNat = v.toNat % 8 := by simp [BitVec.extractLsb'_toNat]
  exact hcode ▸ geometryTable_eq _

theorem sizeOf_toNat (k : BitVec 2) : (Machine.sizeOf k).toNat = 2 ^ k.toNat := by
  decide +revert

theorem setScale_takesSize (v : Byte) (m : Sprite 1) : TakesSize (v.toNat / 16 % 4) m { m with scale := Machine.sizeOf (sizeBits v) } := by
  refine ⟨rfl, ?_⟩
  have hexp : (sizeBits v).toNat = v.toNat / 16 % 4 := by
    rw [sizeBits, BitVec.extractLsb'_toNat, Nat.shiftRight_eq_div_pow]
  exact hexp ▸ sizeOf_toNat _

theorem setHm_takesMotion {size : Nat} (v : Byte) (p : Sprite size) : TakesMotion v p { p with hm := motionBits v } := by
  refine ⟨rfl, ?_⟩
  have hnibble : (motionBits v).toNat = v.toNat / 16 := by
    rw [motionBits, BitVec.extractLsb'_toNat, Nat.shiftRight_eq_div_pow]
    have := v.isLt
    omega
  rw [BitVec.toInt_eq_toNat_cond, hnibble]
  split_ifs <;> omega

theorem setX_takesColumn {size : Nat} (cfg : Config) (t : Tia) (p : Sprite size) :
    TakesColumn cfg t p { p with x := currentColumn cfg t } := by
  refine ⟨rfl, ?_⟩
  rw [currentColumn]
  split_ifs <;> rfl

theorem move_moves {size : Nat} (dir : HmoveDir) (p : Sprite size) : Moves (directionOf dir) p (p.move dir) :=
  ⟨rfl, (clampColumn_val _).trans (by rw [min_comm])⟩

/-! ## The registers that do something -/

/-- Settles O55: each write is one update of the TIA, its fields read as numbers. -/
theorem controlRegisters : Obligations.ControlRegisters := by
  intro cfg t v
  simp only [← getLsbD_eq_decide, ← enableBit_eq_ofNat]
  exact ⟨⟨_, _, setGeometry_takesGeometry v t.p0, setScale_takesSize v t.m0, rfl⟩,
    ⟨_, _, setGeometry_takesGeometry v t.p1, setScale_takesSize v t.m1, rfl⟩, rfl, rfl, rfl, rfl,
    ⟨_, setScale_takesSize v t.bl, rfl⟩, rfl, rfl, rfl, rfl, rfl, rfl, rfl, rfl, rfl, rfl⟩

/-- Settles O56: each write is one update of a sprite, or the same update of all five. -/
theorem motionRegisters : Obligations.MotionRegisters := by
  intro cfg t v
  refine ⟨⟨_, setHm_takesMotion v t.p0, rfl⟩, ⟨_, setHm_takesMotion v t.p1, rfl⟩, ⟨_, setHm_takesMotion v t.m0, rfl⟩,
    ⟨_, setHm_takesMotion v t.m1, rfl⟩, ⟨_, setHm_takesMotion v t.bl, rfl⟩,
    ⟨_, setX_takesColumn cfg t t.p0, rfl⟩, ⟨_, setX_takesColumn cfg t t.p1, rfl⟩, ⟨_, setX_takesColumn cfg t t.m0, rfl⟩,
    ⟨_, setX_takesColumn cfg t t.m1, rfl⟩, ⟨_, setX_takesColumn cfg t t.bl, rfl⟩, fun dir hdir => ?_, rfl⟩
  obtain rfl : dir = directionOf cfg.hmoveDir := hdir
  exact ⟨_, _, _, _, _, move_moves _ t.p0, move_moves _ t.p1, move_moves _ t.m0, move_moves _ t.m1, move_moves _ t.bl, rfl⟩

theorem collisionByte_eq_topBits (bit7 bit6 : Bool) : collisionByte bit7 bit6 = topBits bit7 bit6 := by
  cases bit7 <;> cases bit6 <;> rfl

/-- Settles O58: each register shows two categories by `collisionByte`. -/
theorem collisionReadMap : Obligations.CollisionReadMap := by
  intro t
  simp only [← collisionByte_eq_topBits]
  exact ⟨rfl, rfl, rfl, rfl, rfl, rfl, rfl, rfl⟩

/-! ## The registers that do nothing -/

/-- The write registers are listed in the order of their addresses, from 0x00. -/
theorem addr_of_writeRegAt {addr : Nat} {r : WriteReg} (h : writeRegAt addr = some r) : addr = r.ctorIdx := by
  unfold writeRegAt at h
  split at h <;> cases h <;> rfl

/-- The read registers are listed in the order of their addresses, from 0x30. -/
theorem addr_of_readRegAt {addr : Nat} {r : ReadReg} (h : readRegAt addr = some r) : addr = 0x30 + r.ctorIdx := by
  unfold readRegAt at h
  split at h <;> cases h <;> rfl

section
variable (cfg : Config) (r : WriteReg) (v : Byte) (t : Tia)

theorem write_colorClock : (t.write cfg r v).colorClock = t.colorClock := by cases r <;> rfl

theorem write_scanline : (t.write cfg r v).scanline = t.scanline := by cases r <;> rfl

theorem write_collisions (h : r ≠ .cxclr) : (t.write cfg r v).collisions = t.collisions := by
  cases r with
  | cxclr => exact absurd rfl h
  | _ => rfl

end

/-- The sync, audio and missile-lock registers (decision D29). -/
def ignoredRegs : List WriteReg :=
  [.vsync, .vblank, .wsync, .rsync, .audc0, .audc1, .audf0, .audf1, .audv0, .audv1, .resmp0, .resmp1]

theorem write_ignored (cfg : Config) (v : Byte) (t : Tia) : ∀ r ∈ ignoredRegs, t.write cfg r v = t := by
  simp only [ignoredRegs, List.forall_mem_cons, List.not_mem_nil, false_implies, implies_true, and_true]
  exact ⟨rfl, rfl, rfl, rfl, rfl, rfl, rfl, rfl, rfl, rfl, rfl, rfl⟩

/-- No register is past 0x2C, and at the addresses of the statement are those that are ignored. -/
theorem mem_ignoredRegs {r : WriteReg}
    (h : r.ctorIdx ∈ [0x00, 0x01, 0x02, 0x03, 0x15, 0x16, 0x17, 0x18, 0x19, 0x1A, 0x28, 0x29] ∨ 0x2C < r.ctorIdx) : r ∈ ignoredRegs := by
  revert h
  cases r <;> decide

/-- What a write is: that of the register listed at its address, or nothing where none is. -/
theorem writeRegister_cases (cfg : Config) (addr : Nat) (v : Byte) (t : Tia) :
    t.writeRegister cfg addr v = t ∨ ∃ r : WriteReg, addr = r.ctorIdx ∧ t.writeRegister cfg addr v = t.write cfg r v := by
  unfold Tia.writeRegister
  cases hr : writeRegAt addr with
  | none => exact .inl rfl
  | some r => exact .inr ⟨r, addr_of_writeRegAt hr, rfl⟩

theorem readRegister_eq_zero {addr : Nat} (h : addr < 0x30 ∨ 0x37 < addr) (t : Tia) : t.readRegister addr = 0 := by
  unfold Tia.readRegister
  cases hr : readRegAt addr with
  | none => rfl
  | some r =>
    have haddr := addr_of_readRegAt hr
    cases r with
    | inpt0 | inpt1 | inpt2 | inpt3 | inpt4 | inpt5 => rfl
    | _ => simp only [ReadReg.ctorIdx] at haddr; omega

/-- Settles O57: a write is nothing or that of a register, register by register; a read past the collision registers is 0. -/
theorem portsIgnoreTheRest : Obligations.PortsIgnoreTheRest := by
  intro cfg addr v t
  rcases writeRegister_cases cfg addr v t with h | ⟨r, rfl, h⟩ <;> rw [h]
  · exact ⟨rfl, rfl, fun _ => rfl, fun _ => rfl, fun h => readRegister_eq_zero h t⟩
  · refine ⟨write_colorClock cfg r v t, write_scanline cfg r v t, fun hne => write_collisions cfg r v t ?_,
      fun hignored => write_ignored cfg v t r (mem_ignoredRegs hignored), fun h => readRegister_eq_zero h t⟩
    rintro rfl
    exact hne rfl

end Sys2Proof
end

section
/-! PROOFS. What a step does to the TIA: the latches stay until CXCLR, and every step keeps the invariant (10_state.md R35, 49_tia_motion_collision.md
R423, R424). -/

namespace Sys2Proof
open Machine Stated

/-! ## The latches -/

/-- What a call does to the TIA: its own ports run, and no other call touches it. -/
def tiaAfter (cfg : Config) (t : Tia) : Call → Tia
  | .nextClockTick => t.nextClockTick.1
  | .renderScanline => t.renderScanline
  | .runToClock target => t.runToClock target
  | .writeRegister addr v => t.writeRegister cfg addr v
  | .cpuStep | .runToBreak _ | .continueRun _ | .readRegister _ | .inspect _ | .snapshot | .disassembleStep _ => t

theorem perform_tia {c : Call} {s t : State} (h : perform c s = .next t) : t.tia = tiaAfter s.cfg s.tia c := by
  cases c with
  | cpuStep => exact (cpuStep_keeps h).1
  | runToBreak start => exact (runPass_keeps h).1.trans (by simp [tiaAfter])
  | continueRun left => exact (runPass_keeps h).1
  | nextClockTick | renderScanline | runToClock _ | writeRegister _ _ | readRegister _ | snapshot => cases h; rfl
  | inspect name =>
    simp only [perform] at h
    split at h
    · rename_i hp
      cases h
      rw [probeValue_frame hp]
      rfl
    · cases h
  | disassembleStep addr =>
    simp only [perform] at h
    split at h
    · rename_i hf
      cases h
      rw [fetchAt_frame hf]
      rfl
    · cases h

theorem ticks_keeps_latch {p : Pair} (n : Nat) {t : Tia} (h : t.collisions.has p = true) : (ticks n t).collisions.has p = true := by
  induction n generalizing t with
  | zero => exact h
  | succ n ih => exact ih ((nextClockTick_has t p).mpr (.inl h))

theorem writeRegister_keeps_latch {cfg : Config} {addr : Nat} {v : Byte} {p : Pair} {t : Tia} (haddr : addr ≠ 0x2C)
    (h : t.collisions.has p = true) : (t.writeRegister cfg addr v).collisions.has p = true := by
  rw [(portsIgnoreTheRest cfg addr v t).2.2.1 haddr, h]

theorem tiaAfter_keeps_latch {cfg : Config} {c : Call} {p : Pair} {t : Tia} (hc : ∀ v, c ≠ .writeRegister 0x2C v)
    (h : t.collisions.has p = true) : (tiaAfter cfg t c).collisions.has p = true := by
  cases c with
  | nextClockTick => exact ticks_keeps_latch 1 h
  | renderScanline =>
    rw [tiaAfter, renderScanline_eq_ticks]
    exact ticks_keeps_latch _ h
  | runToClock target =>
    rw [tiaAfter, (runToClockStopsAtTarget t target).1]
    exact ticks_keeps_latch _ h
  | writeRegister addr v => exact writeRegister_keeps_latch (fun haddr => hc v (haddr ▸ rfl)) h
  | cpuStep | runToBreak _ | continueRun _ | readRegister _ | inspect _ | snapshot | disassembleStep _ => exact h

/-- Settles O59: a step is the CPU's or a call, and of the calls only the write to CXCLR takes a category back. -/
theorem latchesStayUntilCxclr : Obligations.LatchesStayUntilCxclr := by
  refine ⟨fun s t p hstep hcxclr hlatched => ?_, fun cfg t v p => Collisions.has_none p⟩
  cases hs : s.schedule with
  | nil =>
    rw [step_empty hs] at hstep
    rw [(cpuStep_keeps hstep).1, hlatched]
  | cons c rest =>
    rw [step_call hs] at hstep
    rw [perform_tia hstep]
    exact tiaAfter_keeps_latch (fun v hc => hcxclr v rest (hc ▸ hs)) hlatched

/-! ## The invariant -/

/-- Only the NUSIZ registers write what a legal sprite is about, and they write a legal geometry. -/
theorem write_legal {t : Tia} (h : t.Legal) (cfg : Config) (r : WriteReg) (v : Byte) : (t.write cfg r v).Legal := by
  obtain ⟨hp0, hp1, hbl, hm0, hm1⟩ := h
  cases r with
  | nusiz0 => exact ⟨Sprite.setGeometry_legal _ t.p0, hp1, hbl, hm0, hm1⟩
  | nusiz1 => exact ⟨hp0, Sprite.setGeometry_legal _ t.p1, hbl, hm0, hm1⟩
  | _ => exact ⟨hp0, hp1, hbl, hm0, hm1⟩

theorem writeRegister_legal {t : Tia} (h : t.Legal) (cfg : Config) (addr : Nat) (v : Byte) : (t.writeRegister cfg addr v).Legal := by
  rcases writeRegister_cases cfg addr v t with heq | ⟨r, -, heq⟩ <;> rw [heq]
  · exact h
  · exact write_legal h cfg r v

theorem ticks_legal {t : Tia} (h : t.Legal) (n : Nat) : (ticks n t).Legal := (ticks_sameRegisters n t).legal.mpr h

theorem tiaMove_legal {cfg : Config} {t u : Tia} (h : t.Legal) (hmove : TiaMove cfg t u) : u.Legal := by
  cases hmove with
  | stays => exact h
  | tick => exact ticks_legal h 1
  | line =>
    rw [renderScanline_eq_ticks]
    exact ticks_legal h _
  | toClock target =>
    rw [(runToClockStopsAtTarget t target).1]
    exact ticks_legal h _
  | write addr v => exact writeRegister_legal h cfg addr v

/-- Settles O42: every step keeps the form of memory, and moves the TIA by ticks and register writes alone, which keep its sprites legal. -/
theorem stepKeepsInvariant : Obligations.StepKeepsInvariant := by
  rintro s t ⟨hmem, hlegal⟩ hstep
  obtain ⟨-, hwf, hmove⟩ := step_keeps hstep
  exact ⟨hwf hmem, tiaMove_legal hlegal hmove⟩

/-- Settles O43: empty memory, and the sprites of the reset TIA. -/
theorem resetMeetsInvariant : Obligations.ResetMeetsInvariant := ⟨Memory.reset_wf, Tia.reset_legal⟩

/-- Settles O44: each field is the one reset is made of. -/
theorem resetLeaves : Obligations.ResetLeaves := by
  refine ⟨rfl, rfl, rfl, rfl, rfl, rfl, rfl, rfl, rfl, rfl, rfl, rfl, rfl, rfl, rfl, ?_, ?_, Collisions.has_none, rfl, fun c => ?_, rfl, rfl⟩
  · exact List.forall_mem_cons.mpr ⟨rfl, List.forall_mem_singleton.mpr rfl⟩
  · exact List.forall_mem_cons.mpr ⟨rfl, List.forall_mem_cons.mpr ⟨rfl, List.forall_mem_singleton.mpr rfl⟩⟩
  · exact Vector.getElem_replicate _

end Sys2Proof
end

section
/-! PROOFS. The collision-algebra property (49_tia_motion_collision.md R426). -/

namespace Sys2Proof
open Machine Stated

/-- The enable flag of an object. -/
def enabled (e : Enables) : Obj → Bool
  | .pf => e.pf
  | .bl => e.bl
  | .p0 => e.p0
  | .m0 => e.m0
  | .p1 => e.p1
  | .m1 => e.m1

/-- A player after the writes: one copy of the smallest geometry, its leftmost bit on or none. -/
def leftmostOnly (on : Bool) (p : Sprite 8) : Sprite 8 :=
  { p with scale := .x1, copies := .one, spacing := .x1, bits := if on then 0x80 else 0 }

/-- A missile or the ball after the writes: of size 1, on or off. -/
def blockOnly (on : Bool) (m : Sprite 1) : Sprite 1 :=
  { m with scale := .x1, bits := (if on then 0x02 else 0 : Byte).extractLsb' 1 1 }

theorem drawn_leftmostOnly {p : Sprite 8} (hx : p.x = 0) (hdelayed : p.delayed = false) (hmirror : p.mirror = false) (on : Bool)
    (c : Fin 160) : (leftmostOnly on p).drawn c = true ↔ on = true ∧ c = 0 := by
  have hbit : ∀ q < 8, (if on then 0x80 else 0 : Byte).getLsbD (7 - q) = true ↔ on = true ∧ q = 0 := by
    cases on <;> decide
  have hcopy : (leftmostOnly on p).copyDrawn 0 c = true ↔ c.val < 8 ∧ (if on then 0x80 else 0 : Byte).getLsbD (7 - c.val) = true := by
    simp [copyDrawn_player_iff, leftmostOnly, hx, hmirror, Factor.toNat]
  have hone : (∃ k < (leftmostOnly on p).copies.toNat, (leftmostOnly on p).copyDrawn k c = true) ↔
      (leftmostOnly on p).copyDrawn 0 c = true := by
    simp [leftmostOnly, Copies.toNat]
  rw [drawn_iff, hone, hcopy, and_iff_right (show (leftmostOnly on p).delayed = false from hdelayed)]
  constructor
  · rintro ⟨hc, hon⟩
    exact ((hbit c hc).mp hon).imp_right Fin.ext
  · rintro ⟨hon, rfl⟩
    exact ⟨by decide, (hbit 0 (by decide)).mpr ⟨hon, rfl⟩⟩

theorem drawn_blockOnly {m : Sprite 1} (hm : m.legalSingle) (hx : m.x = 0) (hdelayed : m.delayed = false) (on : Bool) (c : Fin 160) :
    (blockOnly on m).drawn c = true ↔ on = true ∧ c = 0 := by
  have hbits : ∀ on : Bool, (if on then 0x02 else 0 : Byte).extractLsb' 1 1 = 1 ↔ on = true := by
    decide
  have hon : (blockOnly on m).bits = 1 ↔ on = true := hbits on
  have hcolumn : ((blockOnly on m).x.val ≤ c.val ∧ c.val < (blockOnly on m).x.val + (blockOnly on m).scale.toNat) ↔ c = 0 := by
    simp only [blockOnly, hx, Fin.ext_iff, Fin.val_zero, Factor.toNat]
    omega
  rw [drawn_single_iff (show (blockOnly on m).legalSingle from hm), hon, hcolumn, and_iff_right (show (blockOnly on m).delayed = false from hdelayed)]

/-- What the property asks of the TIA before the writes. -/
structure SpritesAtLeftEdge (t : Tia) : Prop where
  legal : t.Legal
  p0x : t.p0.x = 0
  p1x : t.p1.x = 0
  m0x : t.m0.x = 0
  m1x : t.m1.x = 0
  blx : t.bl.x = 0
  p0delayed : t.p0.delayed = false
  p1delayed : t.p1.delayed = false
  bldelayed : t.bl.delayed = false
  p0mirror : t.p0.mirror = false
  p1mirror : t.p1.mirror = false

section
variable (cfg : Config) (t : Tia) (e : Enables)

theorem writeAll_p0 : (writeAll cfg e.writes t).p0 = leftmostOnly e.p0 t.p0 := rfl

theorem writeAll_p1 : (writeAll cfg e.writes t).p1 = leftmostOnly e.p1 t.p1 := rfl

theorem writeAll_m0 : (writeAll cfg e.writes t).m0 = blockOnly e.m0 t.m0 := rfl

theorem writeAll_m1 : (writeAll cfg e.writes t).m1 = blockOnly e.m1 t.m1 := rfl

theorem writeAll_bl : (writeAll cfg e.writes t).bl = blockOnly e.bl t.bl := rfl

theorem writeAll_pf : (writeAll cfg e.writes t).pf = putPf0 (if e.pf then 0x10 else 0) t.pf := rfl

theorem writeAll_collisions : (writeAll cfg e.writes t).collisions = .none := rfl

theorem writeAll_colorClock (ws : List (Nat × Byte)) : (writeAll cfg ws t).colorClock = t.colorClock := by
  induction ws generalizing t with
  | nil => rfl
  | cons w ws ih => exact (ih _).trans (portsIgnoreTheRest cfg w.1 w.2 t).1

/-- The playfield's first block shows the bit PF0 was written with. -/
theorem onAt_writeAll_pf : ((writeAll cfg e.writes t).onAt 0).get .pf = e.pf := by
  show (writeAll cfg e.writes t).pf.getLsbD 0 = e.pf
  rw [writeAll_pf, getLsbD_putPf0 _ _ (by decide), if_pos (by decide)]
  cases e.pf <;> rfl

end

section
variable {t : Tia} (h : SpritesAtLeftEdge t) (cfg : Config) (e : Enables)
include h

/-- After the writes a sprite is on at column 0, when it is enabled, and at no other. -/
theorem onAt_writeAll_sprite {o : Obj} (ho : o ≠ .pf) (c : Fin 160) :
    ((writeAll cfg e.writes t).onAt c).get o = true ↔ enabled e o = true ∧ c = 0 := by
  obtain ⟨-, -, hbl, ⟨hm0, hm0delayed⟩, hm1, hm1delayed⟩ := h.legal
  cases o with
  | pf => exact absurd rfl ho
  | bl => rw [On.get, Tia.onAt, writeAll_bl]; exact drawn_blockOnly hbl h.blx h.bldelayed e.bl c
  | m0 => rw [On.get, Tia.onAt, writeAll_m0]; exact drawn_blockOnly hm0 h.m0x hm0delayed e.m0 c
  | m1 => rw [On.get, Tia.onAt, writeAll_m1]; exact drawn_blockOnly hm1 h.m1x hm1delayed e.m1 c
  | p0 => rw [On.get, Tia.onAt, writeAll_p0]; exact drawn_leftmostOnly h.p0x h.p0delayed h.p0mirror e.p0 c
  | p1 => rw [On.get, Tia.onAt, writeAll_p1]; exact drawn_leftmostOnly h.p1x h.p1delayed h.p1mirror e.p1 c

/-- After the writes and the scanline the categories latched are the pairs of enabled objects. -/
theorem has_writeAll_renderScanline (hblank : t.colorClock.val ≤ 68) (p : Pair) :
    (writeAll cfg e.writes t).renderScanline.collisions.has p = (enabled e p.objects.1 && enabled e p.objects.2) := by
  obtain ⟨u, hu, -, -, hhas⟩ := renderScanlineDrawsTheRestOfTheLine (writeAll cfg e.writes t)
  have hclear : (writeAll cfg e.writes t).collisions.has p = false := by rw [writeAll_collisions, Collisions.has_none]
  have hclock : ∀ c : Fin 160, (writeAll cfg e.writes t).colorClock.val ≤ 68 + c.val := by
    rw [writeAll_colorClock]
    omega
  have hsecond : p.objects.2 ≠ .pf := by cases p <;> decide
  have hfirst : ((writeAll cfg e.writes t).onAt 0).get p.objects.1 = enabled e p.objects.1 := by
    by_cases ho : p.objects.1 = .pf
    · rw [ho, onAt_writeAll_pf, enabled]
    · rw [Bool.eq_iff_iff, onAt_writeAll_sprite h cfg e ho, and_iff_left rfl]
  rw [Bool.eq_iff_iff, hu, hhas, hclear, Bool.and_eq_true]
  simp only [hclock, true_and, onAt_writeAll_sprite h cfg e hsecond, Bool.false_eq_true, false_or]
  constructor
  · rintro ⟨c, h₁, h₂, rfl⟩
    exact ⟨hfirst ▸ h₁, h₂⟩
  · exact fun ⟨h₁, h₂⟩ => ⟨0, hfirst.symm ▸ h₁, h₂, rfl⟩

end

/-- Settles O60: each register shows two categories, and each category is the AND of its two objects' enables. -/
theorem collisionAlgebra : Obligations.CollisionAlgebra := by
  intro cfg t e hlegal hblank hp0x hp1x hm0x hm1x hblx hp0d hp1d hbld hp0m hp1m
  have hhas := has_writeAll_renderScanline ⟨hlegal, hp0x, hp1x, hm0x, hm1x, hblx, hp0d, hp1d, hbld, hp0m, hp1m⟩ cfg e hblank
  have hswap : ∀ p : Pair, _ = (enabled e p.objects.2 && enabled e p.objects.1) := fun p => (hhas p).trans (Bool.and_comm _ _)
  obtain ⟨h30, h31, h32, h33, h34, h35, h36, h37⟩ := collisionReadMap (writeAll cfg e.writes t).renderScanline
  refine ⟨_, rfl, h30.trans ?_, h31.trans ?_, h32.trans ?_, h33.trans ?_, h34.trans ?_, h35.trans ?_, h36.trans ?_, h37.trans ?_⟩
  · exact congrArg₂ topBits (hhas .m0P1) (hswap .p0M0)
  · exact congrArg₂ topBits (hswap .p0M1) (hswap .p1M1)
  · exact congrArg₂ topBits (hswap .pfP0) (hswap .blP0)
  · exact congrArg₂ topBits (hswap .pfP1) (hswap .blP1)
  · exact congrArg₂ topBits (hswap .pfM0) (hswap .blM0)
  · exact congrArg₂ topBits (hswap .pfM1) (hswap .blM1)
  · exact congrArg₂ topBits (hswap .pfBl) rfl
  · exact congrArg₂ topBits (hhas .p0P1) (hhas .m0M1)

end Sys2Proof
end

section
/-! PROOFS. The bus, the fetch and the operands: what a transaction answers (20_memory.md R70 to R76), which byte of an instruction a step stops at, and what
the addressing modes work out (40_cpu_engine.md R150 to R165). -/

namespace Sys2Proof
open Machine Stated

/-! ## Transactions -/

theorem busRead_iff_readGives {a : Word} {v : Byte} {s u : State} : busRead a s = .ok (v, u) ↔ ReadGives a v s u := by
  rw [busRead_ok, ReadGives]
  cases backs s.cfg.manager.readable a with
  | true => simp
  | false =>
    simp only [Bool.false_eq_true, false_and, false_or, true_and, if_false]
    exact askScript_ok

/-- Settles O21: an access is storage's or the script's, as `busRead_ok`, `busWrite_ok` and their refusals say. -/
theorem busTransactions : Obligations.BusTransactions := by
  refine fun s a => ⟨fun v u => busRead_iff_readGives, fun f => ?_, fun v => ⟨fun u => stored_of_busWrite, fun f => ?_⟩⟩
  · rw [busRead_error, askScript_error, and_left_comm]
    exact Iff.rfl
  · rw [busWrite_error, askScript_error, and_left_comm]
    exact Iff.rfl

/-! ## The fetch -/

section
variable {a : Word} {s s₁ s₂ : State} {op b : Byte} {f : Fault}

theorem fetchAt_of_opcode_error (h : busRead a s = .error f) : fetchAt a s = .error f := bind_error.mpr (.inl h)

theorem fetchAt_of_second_error (h₀ : busRead a s = .ok (op, s₁)) (hsize : 2 ≤ (formatOf op).size)
    (h : busRead (a + 1) s₁ = .error f) : fetchAt a s = .error f := by
  refine bind_error.mpr (.inr ⟨_, h₀, ?_⟩)
  cases hf : formatOf op with
  | f1 i => simp [hf, Format.size] at hsize
  | f2 mk | f3 mk =>
    simp only [hf]
    exact bind_error.mpr (.inl h)

theorem fetchAt_of_third_error (h₀ : busRead a s = .ok (op, s₁)) (h₁ : busRead (a + 1) s₁ = .ok (b, s₂))
    (hsize : (formatOf op).size = 3) (h : busRead (a + 2) s₂ = .error f) : fetchAt a s = .error f := by
  refine bind_error.mpr (.inr ⟨_, h₀, ?_⟩)
  cases hf : formatOf op with
  | f1 i | f2 mk => simp [hf, Format.size] at hsize
  | f3 mk =>
    simp only [hf]
    exact bind_error.mpr (.inr ⟨_, h₁, bind_error.mpr (.inl h)⟩)

end

/-- The next address, in plain numbers. -/
theorem add_eq_ofNat (a : Word) (k : Nat) : a + BitVec.ofNat 16 k = BitVec.ofNat 16 (a.toNat + k) := by
  rw [BitVec.ofNat_add, BitVec.ofNat_toNat, BitVec.setWidth_eq]

/-- Bytes read in turn that decode to one instruction are what a fetch reads. -/
theorem fetchAt_of_readsInTurn {a : Word} {bs : List Byte} {i : Instr} {s t : State} (hdecode : decode bs = .ok (i, []))
    (hreads : ReadsInTurn a bs s t) : fetchAt a s = .ok (i, t) := by
  have hsecond : BitVec.ofNat 16 (a.toNat + 1) = a + 1 := (add_eq_ofNat a 1).symm
  have hthird : BitVec.ofNat 16 ((a + 1).toNat + 1) = a + 2 := by bv_omega
  cases bs with
  | nil => cases hdecode
  | cons op bs =>
    obtain ⟨s₁, h₀, hreads⟩ := hreads
    rw [hsecond] at hreads
    refine bind_ok.mpr ⟨_, h₀, ?_⟩
    cases hf : formatOf op with
    | f1 j =>
      simp only [decode, hf] at hdecode ⊢
      cases hdecode
      obtain rfl : t = s₁ := hreads
      rfl
    | f2 mk =>
      match bs with
      | [] => simp [decode, hf] at hdecode
      | b :: bs =>
        simp only [decode, hf] at hdecode ⊢
        cases hdecode
        obtain ⟨s₂, h₁, rfl⟩ := hreads
        exact bind_ok.mpr ⟨_, h₁, rfl⟩
    | f3 mk =>
      match bs with
      | [] | [_] => simp [decode, hf] at hdecode
      | lo :: hi :: bs =>
        simp only [decode, hf] at hdecode ⊢
        cases hdecode
        obtain ⟨s₂, h₁, s₃, h₂, rfl⟩ := hreads
        rw [hthird] at h₂
        exact bind_ok.mpr ⟨_, h₁, bind_ok.mpr ⟨_, h₂, rfl⟩⟩

theorem cpuStep_of_fetchAt {s t : State} {i : Instr} (h : fetchAt s.cpu.ip s = .ok (i, t)) : cpuStep s = exec i t := by
  rw [cpuStep, h]

theorem fetchAt_withSchedule {a : Word} {s t : State} {i : Instr} (l : List Call) (h : fetchAt a s = .ok (i, t)) :
    fetchAt a (s.withSchedule l) = .ok (i, t.withSchedule l) := by
  rw [(Outside.withSchedule l).fetchAt, h, thenState]

/-- Settles O4: the bytes are what the fetch reads, whatever is scheduled. -/
theorem stepRunsDecodedInstruction : Obligations.StepRunsDecodedInstruction := by
  intro s t bs i hdecode hreads
  have hfetch := fetchAt_of_readsInTurn hdecode hreads
  refine ⟨cpuStep_of_fetchAt hfetch, fun hs => (step_empty hs).trans (cpuStep_of_fetchAt hfetch), fun rest hs => ?_⟩
  exact (step_call hs).trans (cpuStep_of_fetchAt (fetchAt_withSchedule rest hfetch))

/-- Settles O5: the fetch reads its bytes one after the other, and the first refused one is its fault. -/
theorem fetchStopsAtFirstRefusedByte : Obligations.FetchStopsAtFirstRefusedByte := by
  have hstops : ∀ {s : State} {f : Fault}, fetchAt s.cpu.ip s = .error f → cpuStep s = .fault f :=
    fun h => cpuStep_fault.mpr (.inl h)
  refine fun s => ⟨fun f h => ?_, fun op s₁ h₀ hsize => ⟨fun f h => ?_, fun b s₂ f h₁ hsize h => ?_⟩⟩
  · exact hstops (fetchAt_of_opcode_error ((busRead_names h).1 ▸ h))
  · exact hstops (fetchAt_of_second_error h₀ hsize ((busRead_names h).1 ▸ h))
  · exact hstops (fetchAt_of_third_error h₀ h₁ hsize ((busRead_names h).1 ▸ h))

/-! ## Addresses and operands -/

/-- Settles O6: the modes that read no pointer, their sums in plain numbers. -/
theorem directAddresses : Obligations.DirectAddresses := by
  intro s b w
  simp only [MemOperand.address, zext_eq_ofNat, zpIndexed_eq_ofNat, indexed_eq_ofNat, and_self]

section
variable {lo hi : Word} {s : State} {f : Fault}

theorem readPair_of_low_error (h : busRead lo s = .error f) : readPair lo hi s = .error f := bind_error.mpr (.inl h)

theorem readPair_of_high_error {l : Byte} {s₁ : State} (hl : busRead lo s = .ok (l, s₁)) (h : busRead hi s₁ = .error f) :
    readPair lo hi s = .error f := bind_error.mpr (.inr ⟨_, hl, bind_error.mpr (.inl h)⟩)

end

/-- Settles O7: both modes read a pointer by `readPair`, whose two addresses are those of the statement. -/
theorem indirectAddresses : Obligations.IndirectAddresses := by
  refine fun s b => ⟨fun z zh hz hzh => ?_, fun zh hzh => ?_⟩
  · have hlow : BitVec.ofNat 16 z = zext (b + s.cpu.x) := by rw [zext_eq_ofNat, BitVec.toNat_add, hz]
    have hhigh : BitVec.ofNat 16 zh = pointerHigh s.cfg (b + s.cpu.x) := by rw [pointerHigh_eq_ofNat, BitVec.toNat_add, hzh, hz]
    rw [hlow, hhigh]
    refine ⟨fun lo hi s₁ s₂ h₁ h₂ => ?_, fun f h => ?_, fun lo s₁ f h₁ h => ?_⟩
    · exact bind_ok.mpr ⟨_, readPair_ok.mpr ⟨lo, hi, s₁, h₁, h₂, rfl⟩, by rw [wordOf_eq_ofNat]⟩
    · exact bind_error.mpr (.inl (readPair_of_low_error h))
    · exact bind_error.mpr (.inl (readPair_of_high_error h₁ h))
  · have hhigh : BitVec.ofNat 16 zh = pointerHigh s.cfg b := by rw [pointerHigh_eq_ofNat, hzh]
    rw [← zext_eq_ofNat, hhigh]
    refine ⟨fun lo hi base s₁ s₂ h₁ h₂ hbase => ?_, fun f h => ?_, fun lo s₁ f h₁ h => ?_⟩
    · have hy : s₂.cpu.y = s.cpu.y := by rw [busRead_cpu h₂, busRead_cpu h₁]
      have hword : (wordOf lo hi).toNat = base := by rw [wordOf_toNat, hbase]
      exact bind_ok.mpr ⟨_, readPair_ok.mpr ⟨lo, hi, s₁, h₁, h₂, rfl⟩, by simp only [indexed_eq_ofNat, hword, hy]⟩
    · exact bind_error.mpr (.inl (readPair_of_low_error h))
    · exact bind_error.mpr (.inl (readPair_of_high_error h₁ h))

/-- Settles O8: an operand in memory is its address and then the read there. -/
theorem operandReads : Obligations.OperandReads := by
  refine fun s => ⟨fun v => rfl, fun m => ⟨fun ea crossed s₁ ha => ⟨fun v s₂ hr => ?_, fun f hr => ?_⟩, fun f ha => ?_⟩⟩
  · exact ReadOperand.read_mem_ok.mpr ⟨ea, crossed, s₁, ha, hr, by cases crossed <;> rfl⟩
  · exact bind_error.mpr (.inr ⟨_, ha, bind_error.mpr (.inl hr)⟩)
  · exact bind_error.mpr (.inl ha)

end Sys2Proof
end

section
/-! PROOFS. The status byte, TXS, and ADC and SBC in both modes (10_state.md R25, 41_load_store_transfer.md R201, 42_arithmetic.md R210 to R213). -/

namespace Sys2Proof
open Machine Stated

/-! ## The status byte -/

theorem getFlag_toNat (f : Flag) (p : Byte) : (getFlag f p).toNat = p.toNat / 2 ^ f.bit % 2 := Nat.toNat_testBit _ _

/-- Settles O9: the flags are the binary digits of the status byte, and `setNZ` is `putNZ` on it. -/
theorem statusByte : Obligations.StatusByte := by
  refine ⟨fun p => ?_, fun s v => ⟨_, flagsWritten_putNZ v s.cpu.p, rfl⟩⟩
  have := p.isLt
  simp only [getFlag_toNat, Flag.bit]
  omega

/-- Settles O14: SP takes X, with N and Z as the parameter says. -/
theorem transferToStackPointer : Obligations.TransferToStackPointer := by
  refine runsAs_of_pure (g := fun s => if s.cfg.txsSetsNZ then (s.setReg .sp s.cpu.x).setNZ s.cpu.x else s.setReg .sp s.cpu.x)
    (encodes_of_roundTrip Laws.EncodeRoundTrip.txs rfl) rfl (fun _ => rfl) rfl (fun t s => ?_) fun s => ⟨fun h => ?_, fun h => ?_⟩
  · rw [apply_ite (State.setNip t)]
    rfl
  · simp only [h, if_true]
    exact regTakes_setReg_setNZ .sp s.cpu.x s
  · simp only [h, Bool.false_eq_true, if_false]

/-! ## An ALU result -/

/-- What an ALU result writes: A, and N, Z, C and V. -/
theorem putAlu_takes (r : AluResult) (s : State) :
    ∃ q, FlagsWritten (nzcvOf r.value r.carry r.overflow) s.cpu.p q ∧ s.putAlu r = { s with cpu := { s.cpu with a := r.value, p := q } } := by
  refine ⟨_, fun f => ?_, State.putAlu_eq r s⟩
  rw [getFlag_putNZ, getFlag_putFlag, getFlag_putFlag, msb_eq_decide, beq_zero_eq_decide]
  cases f <;> rfl

theorem addToA_setNip (m : Byte) (t : Word) (s : State) : addToA m (s.setNip t) = (addToA m s).setNip t := rfl

theorem subFromA_setNip (m : Byte) (t : Word) (s : State) : subFromA m (s.setNip t) = (subFromA m s).setNip t := by
  rw [State.subFromA_eq, State.subFromA_eq, apply_ite (State.setNip t)]
  rfl

theorem adc_readingShape : ReadingShape (.arith false) addToA where
  size _ _ := rfl
  cycles _ _ _ := rfl
  effect _ _ := rfl
  skipsNip := addToA_setNip

theorem sbc_readingShape : ReadingShape (.arith true) subFromA where
  size _ _ := rfl
  cycles _ _ _ := rfl
  effect _ _ := rfl
  skipsNip := subFromA_setNip

section
open Laws.EncodeRoundTrip

theorem adcRows_arith : ReadRowsHave (.arith false) adcRows := by
  intro b w
  simp only [adcRows, List.forall_mem_cons, List.not_mem_nil, false_implies, implies_true, and_true]
  exact ⟨⟨encodes_of_roundTrip (adcIzx b) rfl, rfl⟩, ⟨encodes_of_roundTrip (adcZp b) rfl, rfl⟩,
    ⟨encodes_of_roundTrip (adcImm b) rfl, rfl⟩, ⟨encodes_word (adcAbs w) rfl, rfl⟩,
    ⟨encodes_of_roundTrip (adcIzy b) rfl, rfl⟩, ⟨encodes_of_roundTrip (adcZpx b) rfl, rfl⟩,
    ⟨encodes_word (adcAby w) rfl, rfl⟩, ⟨encodes_word (adcAbx w) rfl, rfl⟩⟩

theorem sbcRows_arith : ReadRowsHave (.arith true) sbcRows := by
  intro b w
  simp only [sbcRows, List.forall_mem_cons, List.not_mem_nil, false_implies, implies_true, and_true]
  exact ⟨⟨encodes_of_roundTrip (sbcIzx b) rfl, rfl⟩, ⟨encodes_of_roundTrip (sbcZp b) rfl, rfl⟩,
    ⟨encodes_of_roundTrip (sbcImm b) rfl, rfl⟩, ⟨encodes_word (sbcAbs w) rfl, rfl⟩,
    ⟨encodes_of_roundTrip (sbcIzy b) rfl, rfl⟩, ⟨encodes_of_roundTrip (sbcZpx b) rfl, rfl⟩,
    ⟨encodes_word (sbcAby w) rfl, rfl⟩, ⟨encodes_word (sbcAbx w) rfl, rfl⟩⟩

end

/-! ## Binary mode -/

theorem addToA_of_binary (m : Byte) {s : State} (hd : s.flag .d = false) :
    addToA m s = s.putAlu (addBinary s.cpu.a m (s.flag .c)) := by
  rw [State.addToA_eq, hd]
  rfl

theorem subFromA_of_binary (m : Byte) {s : State} (hd : s.flag .d = false) : subFromA m s = addToA (m ^^^ 0xFF) s := by
  rw [State.subFromA_eq, hd]
  rfl

/-- The source's overflow formula of a binary add, in plain numbers. -/
theorem addBinary_overflow (a m : Byte) (c : Bool) :
    (addBinary a m c).overflow =
      ((decide (128 ≤ a.toNat) && decide (128 ≤ m.toNat)) ^^ decide (128 ≤ (a.toNat + m.toNat + c.toNat) % 256)) := by
  simp only [addBinary, msb_eq_decide, BitVec.toNat_ofNat]

/-- Settles O15: the result of the binary add, with its flags. -/
theorem adcBinary : Obligations.AdcBinary := by
  refine readsAs_of_shape adc_readingShape adcRows_arith fun s bus m hd => ?_
  obtain ⟨q, hq, hput⟩ := putAlu_takes (addBinary s.cpu.a m (s.flag .c)) (s.withBus bus)
  rw [addBinary_overflow] at hq
  exact ⟨_, _, q, rfl, rfl, hq, (addToA_of_binary m (s := s.withBus bus) hd).trans hput⟩

/-- The complement that SBC adds. -/
theorem xor_ff_toNat (m : Byte) : (m ^^^ 0xFF).toNat = 255 - m.toNat := by
  have hnot : m ^^^ 0xFF = ~~~m := BitVec.xor_allOnes
  rw [hnot, BitVec.toNat_not]

/-- Adding the complement is subtracting, 256 higher: the result, and the carry as "no borrow". -/
theorem addBinary_complement (a m : Byte) (c : Bool) :
    (((addBinary a (m ^^^ 0xFF) c).value.toNat : Int) = ((a.toNat : Int) - m.toNat - (1 - c.toNat)) % 256) ∧
      (addBinary a (m ^^^ 0xFF) c).carry = decide (0 ≤ (a.toNat : Int) - m.toNat - (1 - c.toNat)) := by
  have hm := m.isLt
  simp only [addBinary, xor_ff_toNat, BitVec.toNat_ofNat, decide_eq_decide]
  omega

theorem addBinary_complement_overflow (a m : Byte) (c : Bool) :
    (addBinary a (m ^^^ 0xFF) c).overflow = ((decide (128 ≤ a.toNat) && !decide (128 ≤ m.toNat)) ^^
      decide (128 ≤ (addBinary a (m ^^^ 0xFF) c).value.toNat)) := by
  have hm : decide (128 ≤ (m ^^^ 0xFF).toNat) = !decide (128 ≤ m.toNat) := by
    rw [xor_ff_toNat, ← decide_not, decide_eq_decide]
    have := m.isLt
    omega
  simp only [addBinary, msb_eq_decide, hm]

/-- Settles O17: SBC adds the complement of its operand. -/
theorem sbcBinary : Obligations.SbcBinary := by
  refine readsAs_of_shape sbc_readingShape sbcRows_arith fun s bus m hd => ?_
  obtain ⟨q, hq, hput⟩ := putAlu_takes (addBinary s.cpu.a (m ^^^ 0xFF) (s.flag .c)) (s.withBus bus)
  obtain ⟨hvalue, hcarry⟩ := addBinary_complement s.cpu.a m (s.flag .c)
  rw [hcarry, addBinary_complement_overflow] at hq
  refine ⟨_, _, q, rfl, hvalue, hq, ?_⟩
  rw [subFromA_of_binary m (s := s.withBus bus) hd, addToA_of_binary _ (s := s.withBus bus) hd]
  exact hput

/-! ## Decimal mode -/

theorem addToA_of_decimal (m : Byte) {s : State} (hd : s.flag .d = true) :
    addToA m s = s.putAlu (addDecimal s.cfg.decVRule s.cpu.a m (s.flag .c) (s.flag .v)) := by
  rw [State.addToA_eq, hd]
  rfl

theorem subFromA_of_decimal (m : Byte) {s : State} (hd : s.flag .d = true) :
    subFromA m s = s.drawBit.2.putAlu
      ⟨(subDecimal s.cpu.a m (s.flag .c)).1, (subDecimal s.cpu.a m (s.flag .c)).2, Config.freeBit s.draws⟩ := by
  rw [State.subFromA_eq, hd]
  rfl

theorem packBcd_eq_ofNat (n : Nat) : packBcd n = BitVec.ofNat 8 (n / 10 * 16 + n % 10) := by
  have hdigit : n % 10 < 2 ^ 4 := by omega
  rw [packBcd, ← Nat.shiftLeft_add_eq_or_of_lt hdigit, Nat.shiftLeft_eq]

theorem bcd_le (b : Byte) : bcd b ≤ 99 := by
  unfold bcd
  omega

theorem testBit_seven {n : Nat} (h : n < 256) : n.testBit 7 = decide (128 ≤ n) := by
  rw [Nat.testBit_eq_decide_div_mod_eq, decide_eq_decide]
  omega

theorem testBit_seven_bcd (b : Byte) : (bcd b).testBit 7 = false :=
  Nat.testBit_lt_two_pow (Nat.lt_of_le_of_lt (bcd_le b) (by decide))

/-- V after a decimal add, rule by rule: no unpacked operand reaches bit 7, and the sum stays below 256. -/
theorem addDecimal_overflow (a m : Byte) (c oldV : Bool) (rule : DecVRule) :
    (addDecimal rule a m c oldV).overflow = match rule with
      | .binaryStep => decide (128 ≤ bcd a + bcd m + c.toNat)
      | .unchanged => oldV
      | .originalOperands => (decide (128 ≤ a.toNat) && decide (128 ≤ m.toNat)) ^^ decide (128 ≤ bcd a + bcd m + c.toNat) := by
  have hsum : (bcd a + bcd m + c.toNat).testBit 7 = decide (128 ≤ bcd a + bcd m + c.toNat) := by
    have ha := bcd_le a
    have hm := bcd_le m
    have hc := Bool.toNat_le c
    exact testBit_seven (by omega)
  show decimalOverflow rule a m (bcd a + bcd m + c.toNat) oldV = _
  cases rule with
  | binaryStep =>
    show (((bcd a).testBit 7 && (bcd m).testBit 7) ^^ (bcd a + bcd m + c.toNat).testBit 7) = _
    rw [testBit_seven_bcd, hsum, Bool.false_and, Bool.false_xor]
  | unchanged => rfl
  | originalOperands => rw [decimalOverflow, hsum, msb_eq_decide, msb_eq_decide]

/-- Settles O16: the result of the decimal add, with its flags. -/
theorem adcDecimal : Obligations.AdcDecimal := by
  refine readsAs_of_shape adc_readingShape adcRows_arith fun s bus m hd => ?_
  obtain ⟨q, hq, hput⟩ := putAlu_takes (addDecimal s.cfg.decVRule s.cpu.a m (s.flag .c) (s.flag .v)) (s.withBus bus)
  rw [addDecimal_overflow] at hq
  refine ⟨_, _, q, _, rfl, packBcd_eq_ofNat _, fun hrule => ?_, fun hrule => ?_, fun hrule => ?_, hq,
    (addToA_of_decimal m (s := s.withBus bus) hd).trans hput⟩
  all_goals
    rw [State.withBus_cfg] at hrule
    rw [hrule]
    rfl

/-- Settles O18: the result of the decimal subtract, with the free bit drawn in V. -/
theorem sbcDecimal : Obligations.SbcDecimal := by
  refine readsAs_of_shape sbc_readingShape sbcRows_arith fun s bus m hd => ?_
  obtain ⟨q, hq, hput⟩ := putAlu_takes
    ⟨(subDecimal s.cpu.a m (s.flag .c)).1, (subDecimal s.cpu.a m (s.flag .c)).2, Config.freeBit s.draws⟩ (s.withBus bus).drawBit.2
  exact ⟨_, _, q, _, rfl, packBcd_eq_ofNat _, hq, by rw [subFromA_of_decimal m (s := s.withBus bus) hd]; exact hput⟩

end Sys2Proof
end

section
/-! PROOFS. Control transfer (44_control_flow.md): JMP, RTI, BRK, NOP and the branches, and that RTS undoes JSR. -/

namespace Sys2Proof
open Machine Stated

/-! ## JMP -/

theorem jump_effect_overwritesNip (c : Nat) (w : Word) : OverwritesNip (Form.jump c w).effect := fun _ _ => rfl

theorem jumpIndirect_effect_overwritesNip (c : Nat) (w : Word) : OverwritesNip (Form.jumpIndirect c w).effect := by
  intro t s
  simp only [Form.effect, (Unseen.setNip t).indirectTarget, bind]
  cases indirectTarget w s <;> rfl

/-- Where the high byte of JMP's pointer is read, in plain numbers (40_cpu_engine.md R162). -/
theorem indirectHigh_eq_ofNat (w : Word) (bug : Bool) :
    (if bug then wordOf (lowByte w + 1) (highByte w) else w + 1) =
      BitVec.ofNat 16 (if bug then w.toNat / 256 * 256 + (w.toNat % 256 + 1) % 256 else w.toNat + 1) := by
  cases bug with
  | true =>
    simp only [if_true, wordOf_eq_ofNat, BitVec.toNat_add, lowByte_toNat, highByte_toNat]
    rw [Nat.add_comm, Nat.mul_comm]
    rfl
  | false => exact add_eq_ofNat w 1

/-- Settles O25: JMP takes its operand, or the word `readPair` makes of the two pointer bytes. -/
theorem jumps : Obligations.Jumps := by
  intro w s
  refine ⟨encodes_word (Laws.EncodeRoundTrip.jmpAbs w) rfl, ?_, encodes_word (Laws.EncodeRoundTrip.jmpInd w) rfl, fun hiAt hhi => ?_⟩
  · exact exec_of_overwritesNip_ok (i := .jmpAbs w) (jump_effect_overwritesNip 3 w) rfl (by rw [BitVec.ofNat_toNat, BitVec.setWidth_eq])
  · rw [← indirectHigh_eq_ofNat] at hhi
    subst hhi
    refine ⟨fun lo hi s₁ s₂ h₁ h₂ => ?_, fun f h => ?_, fun lo s₁ f h₁ h => ?_⟩
    · exact exec_of_overwritesNip_ok (i := .jmpInd w) (jumpIndirect_effect_overwritesNip 5 w)
        (bind_ok.mpr ⟨_, readPair_ok.mpr ⟨lo, hi, s₁, h₁, h₂, rfl⟩, rfl⟩) (wordOf_eq_ofNat lo hi)
    · exact exec_of_overwritesNip_error (jumpIndirect_effect_overwritesNip 5 w) (bind_error.mpr (.inl (readPair_of_low_error h)))
    · exact exec_of_overwritesNip_error (jumpIndirect_effect_overwritesNip 5 w) (bind_error.mpr (.inl (readPair_of_high_error h₁ h)))

/-! ## RTI -/

theorem returnInt_effect_overwritesNip (c : Nat) : OverwritesNip (Form.returnInt c).effect := by
  intro t s
  simp only [Form.effect, (Unseen.setNip t).pull, bind]
  cases pull s with
  | error f => rfl
  | ok p =>
    simp only [thenState, Except.bind, (Unseen.setNip t).modifyP, (Unseen.setNip t).pullWord]
    cases pullWord (p.2.modifyP fun _ => p.1) <;> rfl

section
variable {s : State} {p lo : Byte} {f : Fault} {s₁ s₂ : State}

theorem exec_rti_of_pull {hi : Byte} {s₃ : State} (hp : pull s = .ok (p, s₁)) (hlow : pull (s₁.modifyP fun _ => p) = .ok (lo, s₂))
    (hhigh : pull s₂ = .ok (hi, s₃)) : exec .rti s = .next (jumped (lo.toNat + 256 * hi.toNat) 6 s₃) :=
  exec_of_overwritesNip_ok (i := .rti) (returnInt_effect_overwritesNip 6)
    (bind_ok.mpr ⟨_, hp, bind_ok.mpr ⟨_, pullWord_ok.mpr ⟨lo, hi, s₂, hlow, hhigh, rfl⟩, rfl⟩⟩) (wordOf_eq_ofNat lo hi)

theorem exec_rti_of_status_error (hp : pull s = .error f) : exec .rti s = .fault f :=
  exec_of_overwritesNip_error (returnInt_effect_overwritesNip 6) (bind_error.mpr (.inl hp))

theorem exec_rti_of_word_error (hp : pull s = .ok (p, s₁)) (h : pullWord (s₁.modifyP fun _ => p) = .error f) : exec .rti s = .fault f :=
  exec_of_overwritesNip_error (returnInt_effect_overwritesNip 6) (bind_error.mpr (.inr ⟨_, hp, bind_error.mpr (.inl h)⟩))

end

/-- No read notices the status byte. -/
theorem busRead_modifyP {a : Word} {s u : State} {v : Byte} (g : Byte → Byte) (h : busRead a s = .ok (v, u)) :
    busRead a (s.modifyP g) = .ok (v, u.modifyP g) := by
  rw [(OffBus.modifyP g).busRead, h, thenState]

theorem busRead_modifyP_error {a : Word} {s : State} {f : Fault} (g : Byte → Byte) (h : busRead a s = .error f) :
    busRead a (s.modifyP g) = .error f := by
  rw [(OffBus.modifyP g).busRead, h, thenState]

/-- Settles O28: three pulls in turn, at SP + 1, SP + 2 and SP + 3, each from the state the one before leaves. -/
theorem returnFromInterrupt : Obligations.ReturnFromInterrupt := by
  refine ⟨encodes_of_roundTrip Laws.EncodeRoundTrip.rti rfl, fun s => ⟨fun f hf => ?_, fun p s₁ hp => ?_⟩⟩
  · rw [(busRead_names hf).1]
    exact exec_rti_of_status_error (pull_of_busRead_error hf)
  have hpull := pull_of_busRead hp
  have hcfg₁ := (Kept.bus (busRead_frame hp)).cfg
  have hsp₂ : s.cpu.sp + 2 = s.cpu.sp + 1 + 1 := (BitVec.add_assoc _ 1 1).symm
  have hsp₃ : s.cpu.sp + 3 = s.cpu.sp + 1 + 1 + 1 := (BitVec.add_assoc _ 2 1).symm.trans (congrArg (· + 1) hsp₂)
  rw [hsp₂, hsp₃, ← stackByte_congr (u := s₁.modifyP fun _ => p) hcfg₁]
  refine ⟨fun f hf => ?_, fun lo s₂ hlo => ?_⟩
  · rw [(busRead_names hf).1]
    exact exec_rti_of_word_error hpull (bind_error.mpr (.inl (pull_setReg_sp_error (busRead_modifyP_error _ hf))))
  · have hlow := pull_setReg_sp (busRead_modifyP (fun _ => p) hlo)
    have hcfg₂ := (Kept.bus (busRead_frame hlo)).cfg
    rw [← stackByte_congr (s := s) (u := s₂.modifyP fun _ => p) (hcfg₂.trans hcfg₁)]
    refine ⟨fun f hf => ?_, fun hi s₃ hhi => ?_⟩
    · have hhigh := pull_setReg_sp_error (busRead_modifyP_error (fun _ => p) hf)
      rw [(busRead_names hf).1]
      exact exec_rti_of_word_error hpull (bind_error.mpr (.inr ⟨_, hlow, bind_error.mpr (.inl hhigh)⟩))
    · exact exec_rti_of_pull hpull hlow (pull_setReg_sp (busRead_modifyP _ hhi))

/-! ## BRK, NOP -/

/-- Settles O29: BRK writes its one flag, NOP does nothing. -/
theorem breakAndNoOperation : Obligations.BreakAndNoOperation :=
  ⟨runsAs_of_pure (g := State.setFlag .b true) (encodes_of_roundTrip Laws.EncodeRoundTrip.brk rfl) rfl (fun _ => rfl) rfl
    (fun _ _ => rfl) fun s => ⟨_, flagsWritten_putFlag .b true s.cpu.p, rfl⟩,
   runsAs_of_pure (g := id) (encodes_of_roundTrip Laws.EncodeRoundTrip.nop rfl) rfl (fun _ => rfl) rfl (fun _ _ => rfl) fun _ => rfl⟩

/-! ## The branches -/

theorem branchBase_toNat (s : State) : (branchBase s).toNat = (s.cpu.ip.toNat + 2) % 65536 := BitVec.toNat_add _ _

/-- The target in plain numbers: IP plus 2 plus the signed displacement, modulo 65536. -/
theorem branchTarget_toNat (disp : Byte) (s : State) :
    ((branchTarget disp s).toNat : Int) = (((s.cpu.ip.toNat + 2) % 65536 : Nat) + disp.toInt) % 65536 := by
  have hdisp : (sext8 disp).toNat = (disp.toInt % 65536).toNat := BitVec.toNat_ofInt _
  rw [branchTarget, BitVec.toNat_add, branchBase_toNat, hdisp]
  omega

section
variable {i : Instr} {g : Flag} {want : Bool} {c : Nat} {disp : Byte} (hform : Form.of i = .branch g want c disp)
include hform

theorem exec_branch_taken {s : State} (h : s.flag g = want) :
    exec i s = .next (jumped (branchTarget disp s).toNat
      (c + if highByte (branchTarget disp s) = highByte (branchBase s) then 1 else 2) s) := by
  refine exec_next.mpr ⟨s.setNip (branchTarget disp s), if highByte (branchTarget disp s) = highByte (branchBase s) then 1 else 2, ?_, ?_⟩
  · rw [hform]
    exact if_pos h
  · rw [hform, jumped, BitVec.ofNat_toNat, BitVec.setWidth_eq]
    rfl

theorem exec_branch_not_taken {s : State} (h : s.flag g ≠ want) : exec i s = .next (advanced 2 c s) := by
  refine exec_next.mpr ⟨s.setNip (s.cpu.ip + BitVec.ofNat 16 2), 0, ?_, ?_⟩
  · rw [hform]
    exact if_neg h
  · rw [hform, commit_setNip rfl]
    rfl

end

open Laws.EncodeRoundTrip in
/-- The rows of the branches: each is encoded as listed, and branches on its flag in 2 cycles. -/
theorem branchRows_branch (b : Byte) :
    ∀ row ∈ branchRows b, Encodes row.2.1 [row.1, b] ∧ Form.of row.2.1 = .branch row.2.2.1 row.2.2.2 2 b := by
  simp only [branchRows, List.forall_mem_cons, List.not_mem_nil, false_implies, implies_true, and_true]
  exact ⟨⟨encodes_of_roundTrip (bpl b) rfl, rfl⟩, ⟨encodes_of_roundTrip (bmi b) rfl, rfl⟩, ⟨encodes_of_roundTrip (bvc b) rfl, rfl⟩,
    ⟨encodes_of_roundTrip (bvs b) rfl, rfl⟩, ⟨encodes_of_roundTrip (bcc b) rfl, rfl⟩, ⟨encodes_of_roundTrip (bcs b) rfl, rfl⟩,
    ⟨encodes_of_roundTrip (bne b) rfl, rfl⟩, ⟨encodes_of_roundTrip (beq b) rfl, rfl⟩⟩

/-- Settles O30: every row branches to its target when its flag says so; the page decides the penalty. -/
theorem branches : Obligations.Branches := by
  intro b row hrow
  obtain ⟨hencodes, hform⟩ := branchRows_branch b row hrow
  refine ⟨hencodes, fun s base target hbase htarget => ?_⟩
  obtain rfl : base = (branchBase s).toNat := hbase.trans (branchBase_toNat s).symm
  obtain rfl : target = (branchTarget b s).toNat := by
    have := branchTarget_toNat b s
    rw [branchBase_toNat] at htarget
    omega
  have hpage : (branchTarget b s).toNat / 256 = (branchBase s).toNat / 256 ↔ highByte (branchTarget b s) = highByte (branchBase s) := by
    rw [← highByte_toNat, ← highByte_toNat, BitVec.toNat_inj]
  refine ⟨fun htaken hsame => ?_, fun htaken hother => ?_, fun hnot => exec_branch_not_taken hform hnot⟩
  · rw [exec_branch_taken hform htaken, if_pos (hpage.mp hsame)]
  · rw [exec_branch_taken hform htaken, if_neg (mt hpage.mpr hother)]

/-! ## JSR and RTS -/

theorem stackByte_sub_one_ne (s : State) : stackByte s (s.cpu.sp - 1) ≠ stackByte s s.cpu.sp := by
  rw [← wordOf_stackPage, ← wordOf_stackPage]
  intro h
  have hlow := congrArg lowByte h
  rw [lowByte_wordOf, lowByte_wordOf] at hlow
  bv_omega

/-- Storage after JSR has pushed its return address, high byte first. -/
def calledMem (s : State) : Memory :=
  (s.mem.write (stackByte s s.cpu.sp).toNat (highByte (returnAddr s))).write (stackByte s (s.cpu.sp - 1)).toNat (lowByte (returnAddr s))

theorem calledMem_read_low (s : State) : (calledMem s).read (stackByte s (s.cpu.sp - 1)).toNat = lowByte (returnAddr s) :=
  Memory.read_write_same _ _ _

theorem calledMem_read_high (s : State) : (calledMem s).read (stackByte s s.cpu.sp).toNat = highByte (returnAddr s) := by
  have hne : (stackByte s (s.cpu.sp - 1)).toNat ≠ (stackByte s s.cpu.sp).toNat :=
    fun h => stackByte_sub_one_ne s (BitVec.eq_of_toNat_eq h)
  rw [calledMem, Memory.read_write_other _ _ hne, Memory.read_write_same]

/-- JSR on a stack whose two bytes are storage. -/
theorem exec_jsr_stored (w : Word) {s : State} (hhigh : backs s.cfg.manager.writable (stackByte s s.cpu.sp) = true)
    (hlow : backs s.cfg.manager.writable (stackByte s (s.cpu.sp - 1)) = true) :
    exec (.jsr w) s = .next (jumped w.toNat 6 ((s.withMem (calledMem s)).setReg .sp (s.cpu.sp - 2))) := by
  have hsp : s.cpu.sp - 2 = s.cpu.sp - 1 - 1 := by bv_omega
  have hpush := push_of_busWrite (busWrite_stored (highByte (returnAddr s)) hhigh)
  rw [hsp]
  exact exec_jsr_of_push hpush (push_setReg_sp (busWrite_stored (s := s.withMem _) (lowByte (returnAddr s)) hlow))

/-- RTS on a stack whose two bytes are storage. -/
theorem exec_rts_stored {s : State} {lo hi : Byte} (hlow : backs s.cfg.manager.readable (stackByte s (s.cpu.sp + 1)) = true)
    (hhigh : backs s.cfg.manager.readable (stackByte s (s.cpu.sp + 2)) = true)
    (hlo : s.mem.read (stackByte s (s.cpu.sp + 1)).toNat = lo) (hhi : s.mem.read (stackByte s (s.cpu.sp + 2)).toNat = hi) :
    exec .rts s = .next (jumped (lo.toNat + 256 * hi.toNat + 1) 6 (s.setReg .sp (s.cpu.sp + 2))) := by
  subst hlo hhi
  exact (returnFromSubroutine.2 s).1 _ _ s s (busRead_stored hlow) (busRead_stored hhigh)

/-- Settles O31: the two bytes RTS pulls are the ones JSR pushed, at two addresses that differ. -/
theorem callThenReturn : Obligations.CallThenReturn := by
  intro w s hstored
  obtain ⟨⟨hrhigh, hwhigh⟩, hrlow, hwlow⟩ := (List.forall_mem_cons.mp hstored).imp_right List.forall_mem_singleton.mp
  have hsp₁ : s.cpu.sp - 2 + 1 = s.cpu.sp - 1 := by bv_omega
  have hsp₂ : s.cpu.sp - 2 + 2 = s.cpu.sp := by bv_omega
  have hback : wordOf (lowByte (returnAddr s)) (highByte (returnAddr s)) + 1 = BitVec.ofNat 16 (s.cpu.ip.toNat + 3) := by
    rw [wordOf_bytes, ← add_eq_ofNat]
    exact BitVec.add_assoc _ 2 1
  have hjsr := exec_jsr_stored w hwhigh hwlow
  have hrts := exec_rts_stored (s := jumped w.toNat 6 ((s.withMem (calledMem s)).setReg .sp (s.cpu.sp - 2)))
    (hsp₁.symm ▸ hrlow) (hsp₂.symm ▸ hrhigh) (hsp₁.symm ▸ calledMem_read_low s) (hsp₂.symm ▸ calledMem_read_high s)
  exact ⟨_, _, hjsr, by rw [jumped, BitVec.ofNat_toNat, BitVec.setWidth_eq], hrts, (wordOf_add_one_eq_ofNat _ _).symm.trans hback, hsp₂,
    rfl, rfl, rfl, rfl, rfl⟩

end Sys2Proof
end

section
/-! PROOFS. The stack instructions and the future-expansion opcodes (45_stack_flags.md R290 to R293, 46_unassigned.md R310, R311). -/

namespace Sys2Proof
open Machine Stated

/-! ## Pushes -/

section
variable {i : Instr} {v : State → Byte} (hform : Form.of i = .pushByte 3 v) (hv : ∀ t s, v (s.setNip t) = v s) {s : State}
include hform hv

theorem pushByte_skipsNip : SkipsNip (Form.of i).effect := by
  intro t s
  rw [hform]
  simp only [Form.effect, hv, (Unseen.setNip t).push, bind]
  cases push (v s) s <;> rfl

theorem exec_pushByte {u : State} (h : busWrite (stackByte s s.cpu.sp) (v s) s = .ok u) :
    exec i s = .next (advanced 1 3 (u.setReg .sp (s.cpu.sp - 1))) := by
  have heff : (Form.of i).effect s = .ok (u.setReg .sp (s.cpu.sp - 1), 0) := by
    rw [hform]
    exact bind_ok.mpr ⟨_, push_of_busWrite h, rfl⟩
  have hexec := exec_of_effect_ok (pushByte_skipsNip hform hv) heff
  rwa [hform] at hexec

theorem exec_pushByte_error {f : Fault} (h : busWrite (stackByte s s.cpu.sp) (v s) s = .error f) :
    exec i s = .fault (.busFault (stackByte s s.cpu.sp)) :=
  exec_of_effect_error (pushByte_skipsNip hform hv) (by rw [hform]; exact bind_error.mpr (.inl (push_of_busWrite_error h)))

end

/-! ## Pulls -/

/-- `v <- pull(); g(v)`. -/
def pullThen (g : Byte → State → State) : Effect := fun s => do
  let (v, s) ← pull s
  .ok (g v s, 0)

section
variable {i : Instr} {g : Byte → State → State} (heff : (Form.of i).effect = pullThen g)
  (hnip : ∀ v t s, g v (s.setNip t) = (g v s).setNip t) {s : State}
include heff hnip

theorem pullThen_skipsNip : SkipsNip (Form.of i).effect := by
  intro t s
  rw [heff]
  simp only [pullThen, (Unseen.setNip t).pull, bind]
  cases pull s with
  | error f => rfl
  | ok p => simp only [thenState, Except.bind, hnip, thenEffect]

theorem exec_pullThen {v : Byte} {s' : State} (hsize : (Form.of i).size = 1) (hcycles : (Form.of i).cycles s = 4)
    (hsp : ∀ v x s, g v (s.setReg .sp x) = (g v s).setReg .sp x)
    (h : busRead (stackByte s (s.cpu.sp + 1)) s = .ok (v, s')) :
    exec i s = .next (advanced 1 4 ((g v s').setReg .sp (s.cpu.sp + 1))) := by
  have hok : (Form.of i).effect s = .ok ((g v s').setReg .sp (s.cpu.sp + 1), 0) := by
    rw [heff, ← hsp]
    exact bind_ok.mpr ⟨_, pull_of_busRead h, rfl⟩
  have hexec := exec_of_effect_ok (pullThen_skipsNip heff hnip) hok
  rwa [hsize, hcycles] at hexec

theorem exec_pullThen_error {f : Fault} (h : busRead (stackByte s (s.cpu.sp + 1)) s = .error f) :
    exec i s = .fault (.busFault (stackByte s (s.cpu.sp + 1))) :=
  exec_of_effect_error (pullThen_skipsNip heff hnip) (by rw [heff]; exact bind_error.mpr (.inl (pull_of_busRead_error h)))

end

/-- Settles O32: two pushes, and two pulls into A and into P. -/
theorem stackInstructions : Obligations.StackInstructions := by
  refine ⟨⟨encodes_of_roundTrip (encodeRoundTrip .pha) rfl, fun s => ⟨fun u h => ⟨stored_of_busWrite h, ?_⟩, fun f h => ?_⟩⟩,
    ⟨encodes_of_roundTrip (encodeRoundTrip .php) rfl, fun s => ⟨fun u h => ⟨stored_of_busWrite h, ?_⟩, fun f h => ?_⟩⟩,
    ⟨encodes_of_roundTrip (encodeRoundTrip .pla) rfl, fun s => ⟨fun v s' h => ⟨_, regTakes_setReg_setNZ .a v s', ?_⟩, fun f h => ?_⟩⟩,
    ⟨encodes_of_roundTrip (encodeRoundTrip .plp) rfl, fun s => ⟨fun v s' h => ⟨_, rfl, ?_⟩, fun f h => ?_⟩⟩⟩
  · exact exec_pushByte (v := fun s => s.cpu.a) rfl (fun _ _ => rfl) h
  · exact exec_pushByte_error (v := fun s => s.cpu.a) rfl (fun _ _ => rfl) h
  · exact exec_pushByte (v := fun s => s.cpu.p) rfl (fun _ _ => rfl) h
  · exact exec_pushByte_error (v := fun s => s.cpu.p) rfl (fun _ _ => rfl) h
  · exact exec_pullThen (g := fun v s => (s.setReg .a v).setNZ v) rfl (fun _ _ _ => rfl) rfl rfl (fun _ _ _ => rfl) h
  · exact exec_pullThen_error (g := fun v s => (s.setReg .a v).setNZ v) rfl (fun _ _ _ => rfl) h
  · exact exec_pullThen (g := fun v s => s.modifyP fun _ => v) rfl (fun _ _ _ => rfl) rfl rfl (fun _ _ _ => rfl) h
  · exact exec_pullThen_error (g := fun v s => s.modifyP fun _ => v) rfl (fun _ _ _ => rfl) h

/-! ## Future expansion -/

/-- The opcode of a future-expansion shape. -/
def unassignedOpOf : Form → Option Byte
  | .unassigned op => some op
  | _ => none

theorem form_of_unassignedOp {φ : Form} {op : Byte} (h : unassignedOpOf φ = some op) : φ = .unassigned op := by
  cases φ with
  | unassigned q => exact congrArg Form.unassigned (Option.some.inj h)
  | _ => cases h

/-- The 105 rows: each is encoded by its opcode alone, and means its diagnostic. -/
theorem unassignedRows_unassigned : ∀ row ∈ unassignedRows, encode row.2 = [row.1] ∧ unassignedOpOf (Form.of row.2) = some row.1 := by
  decide

theorem exec_unassigned {i : Instr} {op : Byte} (hform : Form.of i = .unassigned op) (s : State) :
    exec i s = .next (advanced 1 s.cfg.unassignedCycles { s with events := .diagnostic op :: s.events }) := by
  have heff : (Form.of i).effect = Effect.pure (State.emit (.diagnostic op)) := by rw [hform]; rfl
  have hskips : SkipsNip (Form.of i).effect := fun t s => by rw [heff]; rfl
  have hexec := exec_of_effect_ok hskips (congrFun heff s)
  rwa [hform] at hexec

/-- Settles O34: the opcodes are 105, and each row emits its diagnostic and nothing else. -/
theorem futureExpansion : Obligations.FutureExpansion := by
  refine ⟨rfl, fun row hrow => ?_⟩
  obtain ⟨hencode, hop⟩ := unassignedRows_unassigned row hrow
  exact ⟨encodes_of_roundTrip (encodeRoundTrip row.2) hencode, exec_unassigned (form_of_unassignedOp hop)⟩

end Sys2Proof
end

section
/-! PROOFS. Instructions and the rest of the machine: none depends on the TIA or on TICK (60_exceptions.md R460), and nothing ends the machine but an access
that storage does not answer (60_exceptions.md R450, R451, 20_memory.md R76). -/

namespace Sys2Proof
open Machine Stated

/-! ## The TIA and TICK -/

/-- No effect of an instruction notices or touches the TIA or TICK. -/
theorem outside_shifted (t : Tia) (k : Nat) : Outside (shifted t k) where
  reg r s := by cases r <;> rfl
  p _ := rfl
  ip _ := rfl
  mem _ := rfl
  bus _ := rfl
  cfg _ := rfl
  withMem _ _ := rfl
  withBus _ _ := rfl
  setReg r v s := by cases r <;> rfl
  modifyP _ _ := rfl
  setNip _ _ := rfl
  draws _ := rfl
  drawn _ := rfl
  emit _ _ := rfl

theorem shifted_commit (t : Tia) (k n : Nat) (s : State) : (shifted t k s).commit n = shifted t k (s.commit n) := by
  simp only [shifted, State.commit, Nat.add_right_comm]

/-- A push takes A or P. -/
theorem pushByte_takes {i : Instr} {c : Nat} {v : State → Byte} (h : Form.of i = .pushByte c v) :
    v = (fun s => s.cpu.a) ∨ v = (fun s => s.cpu.p) := by
  cases i
  case pha => cases h; exact .inl rfl
  case php => cases h; exact .inr rfl
  all_goals cases h

theorem effect_shifted (i : Instr) (t : Tia) (k : Nat) (s : State) :
    (Form.of i).effect (shifted t k s) = thenEffect (shifted t k) ((Form.of i).effect s) := by
  refine (outside_shifted t k).effect _ (fun c v hform s => ?_) s
  rcases pushByte_takes hform with rfl | rfl <;> rfl

theorem cycles_congr {s t : State} (h : t.cfg = s.cfg) (φ : Form) : φ.cycles t = φ.cycles s := by
  cases φ with
  | unassigned op => exact congrArg Config.unassignedCycles h
  | _ => rfl

theorem exec_shifted (i : Instr) (t : Tia) (k : Nat) (s : State) : exec i (shifted t k s) = shiftedResult t k (exec i s) := by
  have hcycles : (Form.of i).cycles (shifted t k s) = (Form.of i).cycles s := cycles_congr rfl _
  rw [exec_eq_form, exec_eq_form, runInstr, runInstr, hcycles, (outside_shifted t k).setNip, effect_shifted]
  have hip : (shifted t k s).cpu.ip = s.cpu.ip := rfl
  rw [hip]
  cases (Form.of i).effect (s.setNip (s.cpu.ip + BitVec.ofNat 16 (Form.of i).size)) with
  | ok p => exact congrArg Host.Outcome.next (shifted_commit t k _ p.1)
  | error f => rfl

theorem exec_tick_le {i : Instr} {s u : State} (h : exec i s = .next u) : s.cpu.tick ≤ u.cpu.tick := by
  obtain ⟨v, extra, he, rfl⟩ := exec_next.mp h
  have htick : v.cpu.tick = s.cpu.tick := ((Form.of i).frame he).tick
  exact htick ▸ Nat.le_add_right _ _

/-- Settles O38: no effect notices the TIA or TICK, none touches the TIA, and the commit alone adds to TICK. -/
theorem cpuIndependentOfTiaAndTick : Obligations.CpuIndependentOfTiaAndTick :=
  fun i s t k => ⟨exec_shifted i t k s, fun _ h => ⟨(exec_keeps h).1, exec_tick_le h⟩⟩

/-! ## Refused accesses -/

/-- A computation that can only be stopped by an access which storage, as `s` has it, does not answer. -/
def OnlyRefuses {α : Type} (s : State) (x : Except Fault α) : Prop := ∀ f, x = .error f → ∃ a, f = .busFault a ∧ NotStored a s

namespace OnlyRefuses
variable {α β : Type} {s t : State}

theorem ok (a : α) : OnlyRefuses s (.ok a) := fun _ h => nomatch h

theorem bind {x : Except Fault α} {k : α → Except Fault β} (hx : OnlyRefuses s x) (hk : ∀ a, x = .ok a → OnlyRefuses s (k a)) :
    OnlyRefuses s (x >>= k) := by
  intro f h
  rcases bind_error.mp h with h | ⟨a, ha, h⟩
  · exact hx f h
  · exact hk a ha f h

theorem read (a : Word) (h : t.cfg = s.cfg) : OnlyRefuses s (busRead a t) := fun _ hf =>
  ⟨a, (busRead_names hf).1, .inl (h ▸ (busRead_names hf).2)⟩

theorem write (a : Word) (v : Byte) (h : t.cfg = s.cfg) : OnlyRefuses s (busWrite a v t) := fun _ hf =>
  ⟨a, (busWrite_names hf).1, .inr (h ▸ (busWrite_names hf).2)⟩

theorem pair (lo hi : Word) (h : t.cfg = s.cfg) : OnlyRefuses s (readPair lo hi t) :=
  (read lo h).bind fun _ hl => (read hi ((Kept.bus (busRead_frame hl)).cfg.trans h)).bind fun _ _ => ok _

theorem address (m : MemOperand) (h : t.cfg = s.cfg) : OnlyRefuses s (m.address t) := by
  cases m with
  | zp | zpx | zpy | abs | abx | aby => exact ok _
  | izx b | izy b => exact (pair _ _ h).bind fun _ _ => ok _

theorem operand (o : ReadOperand) (h : t.cfg = s.cfg) : OnlyRefuses s (o.read t) := by
  cases o with
  | imm v => exact ok _
  | mem m =>
    exact (address m h).bind fun _ ha => (read _ ((Kept.bus (MemOperand.address_frame ha)).cfg.trans h)).bind fun _ _ => ok _

theorem push (v : Byte) (h : t.cfg = s.cfg) : OnlyRefuses s (Machine.push v t) := (write _ _ h).bind fun _ _ => ok _

theorem pull (h : t.cfg = s.cfg) : OnlyRefuses s (Machine.pull t) := read _ h

theorem pullWord (h : t.cfg = s.cfg) : OnlyRefuses s (Machine.pullWord t) :=
  (pull h).bind fun _ hl => (pull ((Kept.pull hl).cfg.trans h)).bind fun _ _ => ok _

/-- What stops the effect of an instruction. -/
theorem effect (φ : Form) (h : t.cfg = s.cfg) : OnlyRefuses s (φ.effect t) := by
  cases φ with
  | load r c o | arith sub c o | compareReg r c o | logic op c o | bitTest c o => exact (operand o h).bind fun _ _ => ok _
  | store r c m =>
    exact (address m h).bind fun _ ha => (write _ _ ((Kept.bus (MemOperand.address_frame ha)).cfg.trans h)).bind fun _ _ => ok _
  | modifyMem op c m =>
    refine (address m h).bind fun _ ha => ?_
    have hcfg := (Kept.bus (MemOperand.address_frame ha)).cfg.trans h
    exact (read _ hcfg).bind fun _ hr => (write _ _ ((Kept.bus (busRead_frame hr)).cfg.trans hcfg)).bind fun _ _ => ok _
  | transfer | transferToSp | countReg | modifyAcc | nop | jump | breakMark | writeFlag | unassigned => exact ok _
  | jumpIndirect c w => exact (pair _ _ h).bind fun _ _ => ok _
  | call c w => exact (push _ h).bind fun _ hp => (push _ ((Kept.push hp).cfg.trans h)).bind fun _ _ => ok _
  | returnSub c => exact (pullWord h).bind fun _ _ => ok _
  | returnInt c =>
    exact (pull h).bind fun p hp => (pullWord (t := p.2.modifyP fun _ => p.1) ((Kept.pull hp).cfg.trans h)).bind fun _ _ => ok _
  | branch f want c d =>
    simp only [Form.effect]
    split <;> exact ok _
  | pushByte c v => exact (push _ h).bind fun _ _ => ok _
  | pullA c | pullP c => exact (pull h).bind fun _ _ => ok _

theorem fetch (a : Word) (h : t.cfg = s.cfg) : OnlyRefuses s (fetchAt a t) := by
  refine (read a h).bind fun p hp => ?_
  have hcfg := (Kept.bus (busRead_frame hp)).cfg.trans h
  cases hf : formatOf p.1 with
  | f1 i =>
    simp only [hf]
    exact ok _
  | f2 mk =>
    simp only [hf]
    exact (read _ hcfg).bind fun _ _ => ok _
  | f3 mk =>
    simp only [hf]
    exact (read _ hcfg).bind fun _ hq => (read _ ((Kept.bus (busRead_frame hq)).cfg.trans hcfg)).bind fun _ _ => ok _

theorem probe (p : Probe) (h : t.cfg = s.cfg) : OnlyRefuses s (probeValue p t) := by
  cases p with
  | m addr => exact (read addr h).bind fun _ _ => ok _
  | _ => exact ok _

end OnlyRefuses

/-- How a step of the machine can end: in a next state, or by an access that storage, as `s` has it, does not answer. -/
def GoesOnOrRefused (s : State) (r : Result) : Prop := Completes r ∨ ∃ a, r = .fault (.busFault a) ∧ NotStored a s

theorem OnlyRefuses.fault {α : Type} {s : State} {x : Except Fault α} {f : Fault} (h : OnlyRefuses s x) (hf : x = .error f) :
    GoesOnOrRefused s (.fault f) := by
  obtain ⟨a, rfl, hns⟩ := h f hf
  exact .inr ⟨a, rfl, hns⟩

theorem exec_outcome (i : Instr) {s t : State} (h : t.cfg = s.cfg) : GoesOnOrRefused s (exec i t) := by
  cases hr : exec i t with
  | next u => exact .inl ⟨u, rfl⟩
  | fault f =>
    exact (OnlyRefuses.effect (t := t.setNip (t.cpu.ip + BitVec.ofNat 16 (Form.of i).size)) (Form.of i) h).fault (exec_fault.mp hr)
  | refused r => exact absurd hr (exec_not_refused i t r)

theorem cpuStep_outcome {s t : State} (h : t.cfg = s.cfg) : GoesOnOrRefused s (cpuStep t) := by
  unfold cpuStep
  split
  · rename_i i u hf
    exact exec_outcome i ((Kept.bus (fetchAt_frame hf)).cfg.trans h)
  · rename_i f hf
    exact (OnlyRefuses.fetch _ h).fault hf

theorem runPass_outcome (left : Option Nat) {s t : State} (h : t.cfg = s.cfg) : GoesOnOrRefused s (runPass left t) := by
  unfold runPass
  split
  · rename_i f hr
    exact (OnlyRefuses.read _ h).fault hr
  · rename_i op u hr
    have hcfg : u.cfg = s.cfg := (Kept.bus (busRead_frame hr)).cfg.trans h
    split
    · exact .inl ⟨_, rfl⟩
    · split
      · exact .inl ⟨_, rfl⟩
      · exact cpuStep_outcome hcfg

theorem perform_outcome (c : Call) {s t : State} (h : t.cfg = s.cfg) : GoesOnOrRefused s (perform c t) := by
  cases c with
  | cpuStep => exact cpuStep_outcome h
  | runToBreak start => exact runPass_outcome _ (by cases start <;> exact h)
  | continueRun left => exact runPass_outcome left h
  | nextClockTick | renderScanline | runToClock _ | writeRegister _ _ | readRegister _ | snapshot => exact .inl ⟨_, rfl⟩
  | inspect p =>
    simp only [perform]
    split
    · exact .inl ⟨_, rfl⟩
    · rename_i f hf
      exact (OnlyRefuses.probe p h).fault hf
  | disassembleStep addr =>
    simp only [perform]
    split
    · exact .inl ⟨_, rfl⟩
    · rename_i f hf
      exact (OnlyRefuses.fetch addr h).fault hf

theorem step_outcome (s : State) : GoesOnOrRefused s (step s) := by
  unfold step
  split
  · exact cpuStep_outcome rfl
  · exact perform_outcome _ rfl

/-! ## A machine whose storage answers everything -/

theorem not_notStored_of_backed {s : State} (h : Backed s) (a : Word) : ¬ NotStored a s := by
  obtain ⟨hread, hwrite⟩ := h
  simp [NotStored, hread, hwrite, backs]

theorem completes_of_backed {s : State} (h : Backed s) {r : Result} (hr : GoesOnOrRefused s r) : Completes r :=
  hr.resolve_right fun ⟨a, _, hns⟩ => not_notStored_of_backed h a hns

/-- Settles O40: only an access that storage does not answer stops anything, and a step keeps the configuration that says what storage answers. -/
theorem backedMachineNeverStops : Obligations.BackedMachineNeverStops := by
  refine fun s hbacked => ⟨fun i => completes_of_backed hbacked (exec_outcome i rfl), fun n => ?_⟩
  induction n generalizing s with
  | zero => exact ⟨s, runsTo_zero.mpr rfl, rfl⟩
  | succ n ih =>
    obtain ⟨t, ht⟩ := completes_of_backed hbacked (step_outcome s)
    have hcfg := (step_keeps ht).1
    obtain ⟨u, hu, hucfg⟩ := ih t (by rwa [Backed, hcfg])
    exact ⟨u, runsTo_succ.mpr ⟨t, ht, hu⟩, hucfg.trans hcfg⟩

end Sys2Proof
end

section
/-! PROOFS. What an instruction may write and record: each shape with the flags and registers it writes, held to the mnemonics of 10_state.md R20, R21 and
R26, and the one event there is, the diagnostic of an unassigned opcode (40_cpu_engine.md R175). -/

namespace Sys2Proof
open Machine Stated

/-! ## What an effect leaves -/

/-- `u` has every flag and register of `s` but those named, and the events of `s`. -/
structure Leaves (fs : List Flag) (rs : List Reg) (s u : State) : Prop where
  flag : ∀ f, f ∉ fs → u.flag f = s.flag f
  reg : ∀ r, r ∉ rs → u.reg r = s.reg r
  events : u.events = s.events

namespace Leaves
variable {fs : List Flag} {rs : List Reg} {s t u : State}

theorem trans (h : Leaves fs rs s t) (k : Leaves fs rs t u) : Leaves fs rs s u :=
  ⟨fun f hf => (k.flag f hf).trans (h.flag f hf), fun r hr => (k.reg r hr).trans (h.reg r hr), k.events.trans h.events⟩

/-- A change that is not of P, a register or the events. -/
theorem of_eq (hp : u.cpu.p = s.cpu.p) (hr : ∀ r, u.reg r = s.reg r) (he : u.events = s.events) : Leaves fs rs s u :=
  ⟨fun f _ => congrArg (getFlag f) hp, fun r _ => hr r, he⟩

theorem refl (s : State) : Leaves fs rs s s := of_eq rfl (fun _ => rfl) rfl

theorem bus (h : u = s.withBus u.bus) : Leaves fs rs s u := by
  rw [h]
  exact of_eq rfl (fun r => by cases r <;> rfl) rfl

theorem write {a : Word} {v : Byte} (h : busWrite a v s = .ok u) : Leaves fs rs s u := by
  rcases busWrite_frame h with rfl | h
  · exact of_eq rfl (fun r => by cases r <;> rfl) rfl
  · exact bus h

theorem setNip (w : Word) (s : State) : Leaves fs rs s (s.setNip w) := of_eq rfl (fun r => by cases r <;> rfl) rfl

theorem commit (n : Nat) (s : State) : Leaves fs rs s (s.commit n) := of_eq rfl (fun r => by cases r <;> rfl) rfl

theorem setReg {r : Reg} (hr : r ∈ rs) (v : Byte) (s : State) : Leaves fs rs s (s.setReg r v) := by
  refine ⟨fun f _ => by cases r <;> rfl, fun q hq => ?_, by cases r <;> rfl⟩
  rw [State.reg_setReg, if_neg (ne_of_mem_of_not_mem hr hq).symm]

theorem modifyP {g : Byte → Byte} (h : ∀ f, f ∉ fs → getFlag f (g s.cpu.p) = getFlag f s.cpu.p) : Leaves fs rs s (s.modifyP g) :=
  ⟨h, fun r _ => by cases r <;> rfl, rfl⟩

theorem setFlag {g : Flag} (hg : g ∈ fs) (v : Bool) (s : State) : Leaves fs rs s (s.setFlag g v) :=
  modifyP fun f hf => by rw [getFlag_putFlag, if_neg (ne_of_mem_of_not_mem hg hf).symm]

theorem setNZ (hnz : ∀ f ∈ [Flag.n, .z], f ∈ fs) (v : Byte) (s : State) : Leaves fs rs s (s.setNZ v) :=
  modifyP fun f hf => by
    rw [getFlag_putNZ, if_neg (ne_of_mem_of_not_mem (hnz .n (by decide)) hf).symm,
      if_neg (ne_of_mem_of_not_mem (hnz .z (by decide)) hf).symm]

theorem putAlu (hfs : ∀ f ∈ [Flag.n, .z, .v, .c], f ∈ fs) (ha : .a ∈ rs) (r : AluResult) (s : State) : Leaves fs rs s (s.putAlu r) :=
  (((setFlag (hfs .v (by decide)) _ s).trans (setFlag (hfs .c (by decide)) _ _)).trans (setReg ha _ _)).trans
    (setNZ (fun f hf => hfs f (List.mem_append_left [Flag.v, Flag.c] hf)) _ _)

theorem subFromA (hfs : ∀ f ∈ [Flag.n, .z, .v, .c], f ∈ fs) (ha : .a ∈ rs) (m : Byte) (s : State) : Leaves fs rs s (subFromA m s) := by
  rw [State.subFromA_eq]
  split
  · exact (of_eq (s := s) (u := s.drawBit.2) rfl (fun r => by cases r <;> rfl) rfl).trans (putAlu hfs ha _ _)
  · exact putAlu hfs ha _ s

theorem push {v : Byte} (hsp : .sp ∈ rs) (h : Machine.push v s = .ok u) : Leaves fs rs s u := by
  obtain ⟨t, ht, rfl⟩ := push_ok.mp h
  exact (write ht).trans (setReg hsp _ t)

theorem pull {v : Byte} (hsp : .sp ∈ rs) (h : Machine.pull s = .ok (v, u)) : Leaves fs rs s u :=
  (setReg hsp _ s).trans (bus (busRead_frame h))

theorem pullWord {w : Word} (hsp : .sp ∈ rs) (h : Machine.pullWord s = .ok (w, u)) : Leaves fs rs s u := by
  obtain ⟨lo, hi, t, h1, h2, -⟩ := pullWord_ok.mp h
  exact (pull hsp h1).trans (pull hsp h2)

end Leaves

/-- All eight flags. -/
def allFlags : List Flag := [.c, .z, .i, .d, .b, .u, .v, .n]

theorem mem_allFlags (f : Flag) : f ∈ allFlags := by cases f <;> decide

/-- The flags a modifying operation writes: it shifts a bit into C, or counts. -/
def flagsOfModify : ModifyOp → List Flag
  | .asl | .lsr | .rol | .ror => [.n, .z, .c]
  | .inc | .dec => [.n, .z]

/-- The flags a shape may write. -/
def flagsWritten : Form → List Flag
  | .load _ _ _ | .transfer _ _ _ | .transferToSp _ | .countReg _ _ _ | .logic _ _ _ | .pullA _ => [.n, .z]
  | .arith _ _ _ => [.n, .z, .v, .c]
  | .compareReg _ _ _ => [.n, .z, .c]
  | .modifyMem op _ _ | .modifyAcc op _ => flagsOfModify op
  | .bitTest _ _ => [.v, .n, .z]
  | .returnInt _ | .pullP _ => allFlags
  | .breakMark _ => [.b]
  | .writeFlag f _ _ => [f]
  | .store _ _ _ | .nop _ | .jump _ _ | .jumpIndirect _ _ | .call _ _ | .returnSub _ | .branch _ _ _ _ | .pushByte _ _
  | .unassigned _ => []

/-- The registers a shape may write. -/
def regsWritten : Form → List Reg
  | .load r _ _ | .countReg r _ _ | .transfer _ r _ => [r]
  | .arith _ _ _ | .modifyAcc _ _ | .logic _ _ _ => [.a]
  | .transferToSp _ | .call _ _ | .returnSub _ | .returnInt _ | .pushByte _ _ | .pullP _ => [.sp]
  | .pullA _ => [.a, .sp]
  | .store _ _ _ | .compareReg _ _ _ | .modifyMem _ _ _ | .bitTest _ _ | .nop _ | .jump _ _ | .jumpIndirect _ _ | .breakMark _
  | .branch _ _ _ _ | .writeFlag _ _ _ | .unassigned _ => []

theorem getFlag_modify_of_not_mem {op : ModifyOp} {f : Flag} (hf : f ∉ flagsOfModify op) (v p : Byte) :
    getFlag f (op.status v p) = getFlag f p := by
  rw [getFlag_modify]
  cases op <;> cases f <;> simp_all [flagsOfModify, ModifyOp.carry]

/-- An effect leaves what its shape does not write. -/
theorem effect_leaves (φ : Form) (hop : unassignedOpOf φ = none) {s u : State} {extra : Nat} (h : φ.effect s = .ok (u, extra)) :
    Leaves (flagsWritten φ) (regsWritten φ) s u := by
  cases φ with
  | load r c o | logic op c o =>
    obtain ⟨⟨⟨m, e⟩, t⟩, ht, h⟩ := bind_ok.mp h
    cases h
    exact ((Leaves.bus (ReadOperand.read_frame ht)).trans (.setReg (by simp [regsWritten]) _ _)).trans (.setNZ (fun _ h => h) _ _)
  | arith sub c o =>
    obtain ⟨⟨⟨m, e⟩, t⟩, ht, h⟩ := bind_ok.mp h
    refine (Leaves.bus (ReadOperand.read_frame ht)).trans ?_
    cases sub with
    | true =>
      cases h
      exact .subFromA (fun _ h => h) (List.mem_singleton.mpr rfl) _ _
    | false =>
      cases h
      exact .putAlu (fun _ h => h) (List.mem_singleton.mpr rfl) _ _
  | compareReg r c o =>
    obtain ⟨⟨⟨m, e⟩, t⟩, ht, h⟩ := bind_ok.mp h
    cases h
    refine (Leaves.bus (ReadOperand.read_frame ht)).trans (.modifyP fun f hf => ?_)
    simp_all [flagsWritten, getFlag_putCompare]
  | bitTest c o =>
    obtain ⟨⟨⟨m, e⟩, t⟩, ht, h⟩ := bind_ok.mp h
    cases h
    refine (Leaves.bus (ReadOperand.read_frame ht)).trans (.modifyP fun f hf => ?_)
    simp_all [flagsWritten, getFlag_putBit]
  | store r c m =>
    obtain ⟨⟨⟨ea, x⟩, t⟩, ht, h⟩ := bind_ok.mp h
    obtain ⟨v, hv, h⟩ := bind_ok.mp h
    cases h
    exact (Leaves.bus (MemOperand.address_frame ht)).trans (.write hv)
  | modifyMem op c m =>
    obtain ⟨⟨⟨ea, x⟩, t⟩, ht, h⟩ := bind_ok.mp h
    obtain ⟨⟨v, t'⟩, hv, h⟩ := bind_ok.mp h
    obtain ⟨w, hw, h⟩ := bind_ok.mp h
    cases h
    exact (((Leaves.bus (MemOperand.address_frame ht)).trans (.bus (busRead_frame hv))).trans (.write hw)).trans
      (.modifyP fun f hf => getFlag_modify_of_not_mem hf _ _)
  | transfer q r c | countReg r k c =>
    cases h
    exact (Leaves.setReg (by simp [regsWritten]) _ s).trans (.setNZ (fun _ h => h) _ _)
  | transferToSp c =>
    cases h
    dsimp only
    split
    · exact (Leaves.setReg (by simp [regsWritten]) _ s).trans (.setNZ (fun _ h => h) _ _)
    · exact .setReg (by simp [regsWritten]) _ s
  | modifyAcc op c =>
    cases h
    exact (Leaves.setReg (by simp [regsWritten]) _ s).trans (.modifyP fun f hf => getFlag_modify_of_not_mem hf _ _)
  | nop c =>
    cases h
    exact .refl s
  | jump c w =>
    cases h
    exact .setNip _ _
  | breakMark c | writeFlag f v c =>
    cases h
    exact .setFlag (by simp [flagsWritten]) _ s
  | unassigned op => cases hop
  | jumpIndirect c w =>
    obtain ⟨⟨w, t⟩, ht, h⟩ := bind_ok.mp h
    cases h
    exact (Leaves.bus (indirectTarget_frame ht)).trans (.setNip _ _)
  | call c w =>
    obtain ⟨t, ht, h⟩ := bind_ok.mp h
    obtain ⟨t', ht', h⟩ := bind_ok.mp h
    cases h
    have hsp : Reg.sp ∈ regsWritten (.call c w) := List.mem_singleton.mpr rfl
    exact ((Leaves.push hsp ht).trans (.push hsp ht')).trans (.setNip _ _)
  | returnSub c =>
    obtain ⟨⟨w, t⟩, ht, h⟩ := bind_ok.mp h
    cases h
    exact (Leaves.pullWord (List.mem_singleton.mpr rfl) ht).trans (.setNip _ _)
  | returnInt c =>
    obtain ⟨⟨p, t⟩, ht, h⟩ := bind_ok.mp h
    obtain ⟨⟨w, t'⟩, ht', h⟩ := bind_ok.mp h
    cases h
    have hsp : Reg.sp ∈ regsWritten (.returnInt c) := List.mem_singleton.mpr rfl
    exact (((Leaves.pull hsp ht).trans (.modifyP fun f hf => absurd (mem_allFlags f) hf)).trans (.pullWord hsp ht')).trans (.setNip _ _)
  | branch g want c d =>
    simp only [Form.effect] at h
    split at h <;> cases h
    · exact .setNip _ _
    · exact .refl s
  | pushByte c v =>
    obtain ⟨t, ht, h⟩ := bind_ok.mp h
    cases h
    exact .push (List.mem_singleton.mpr rfl) ht
  | pullA c =>
    obtain ⟨⟨v, t⟩, ht, h⟩ := bind_ok.mp h
    cases h
    exact ((Leaves.pull (by simp [regsWritten]) ht).trans (.setReg (by simp [regsWritten]) _ _)).trans (.setNZ (fun _ h => h) _ _)
  | pullP c =>
    obtain ⟨⟨v, t⟩, ht, h⟩ := bind_ok.mp h
    cases h
    exact (Leaves.pull (List.mem_singleton.mpr rfl) ht).trans (.modifyP fun f hf => absurd (mem_allFlags f) hf)

theorem exec_leaves {i : Instr} (hop : unassignedOpOf (Form.of i) = none) {s t : State} (h : exec i s = .next t) :
    Leaves (flagsWritten (Form.of i)) (regsWritten (Form.of i)) s t := by
  obtain ⟨u, extra, he, rfl⟩ := exec_next.mp h
  exact ((Leaves.setNip _ s).trans (effect_leaves _ hop he)).trans (.commit _ u)

/-! ## The writers of a flag and of a register -/

theorem flagsWritten_writers (i : Instr) : ((flagsWritten (Form.of i)).all fun f => (flagWriters f).contains i.mnemonic) = true := by
  cases i <;> rfl

theorem regsWritten_writers (i : Instr) : ((regsWritten (Form.of i)).all fun r => (regWriters r).contains i.mnemonic) = true := by
  cases i <;> rfl

/-- Is it TXS? -/
def isTxs : Instr → Bool
  | .txs => true
  | _ => false

theorem mnemonic_beq_txs (i : Instr) : (i.mnemonic == "TXS") = isTxs i := by cases i <;> rfl

theorem eq_txs_of_mnemonic {i : Instr} (h : i.mnemonic = "TXS") : i = .txs := by
  have hi : isTxs i = true := by rw [← mnemonic_beq_txs, h]; rfl
  unfold isTxs at hi
  split at hi
  · rfl
  · cases hi

theorem txs_keeps_p {s t : State} (hcfg : s.cfg.txsSetsNZ = false) (h : exec .txs s = .next t) : t.cpu.p = s.cpu.p := by
  obtain ⟨u, ⟨-, hu⟩, hexec⟩ := transferToStackPointer.2 s
  rw [hexec] at h
  cases h
  rw [hu hcfg]
  rfl

/-- What every instruction leaves, the diagnostics aside. -/
theorem exec_leaves_flag_reg {i : Instr} {s t : State} (h : exec i s = .next t) :
    (∀ f, f ∉ flagsWritten (Form.of i) → t.flag f = s.flag f) ∧ ∀ r, r ∉ regsWritten (Form.of i) → t.reg r = s.reg r := by
  cases hop : unassignedOpOf (Form.of i) with
  | none =>
    have hl := exec_leaves hop h
    exact ⟨hl.flag, hl.reg⟩
  | some op =>
    rw [exec_unassigned (form_of_unassignedOp hop)] at h
    cases h
    exact ⟨fun _ _ => rfl, fun r _ => by cases r <;> rfl⟩

/-- Settles O35: what a shape writes, its mnemonic may write, and an instruction leaves what its shape does not write. -/
theorem stateChangesOnlyByItsWriters : Obligations.StateChangesOnlyByItsWriters := by
  intro i s t h
  obtain ⟨hflag, hreg⟩ := exec_leaves_flag_reg h
  refine ⟨fun f hf => hflag f fun hmem => hf ?_, fun hi hcfg => ?_, fun r hr => hreg r fun hmem => hr ?_⟩
  · exact List.contains_iff_mem.mp (List.all_eq_true.mp (flagsWritten_writers i) f hmem)
  · rw [eq_txs_of_mnemonic hi] at h
    exact txs_keeps_p hcfg h
  · exact List.contains_iff_mem.mp (List.all_eq_true.mp (regsWritten_writers i) r hmem)

/-! ## Diagnostics -/

/-- The opcode of an instruction. -/
def opcodeOf (i : Instr) : Byte := (encode i).headD 0

/-- The future-expansion shapes are those of the 105 opcodes. -/
theorem unassignedOpOf_form (i : Instr) :
    unassignedOpOf (Form.of i) = if (unassignedRows.map Prod.fst).contains (opcodeOf i) then some (opcodeOf i) else none := by
  cases i <;> rfl

/-- What a fetch reads, in turn, is the encoding of its instruction. -/
theorem readsInTurn_of_fetchAt {a : Word} {s u : State} {i : Instr} (h : fetchAt a s = .ok (i, u)) : ReadsInTurn a (encode i) s u := by
  have hsecond : BitVec.ofNat 16 (a.toNat + 1) = a + 1 := (add_eq_ofNat a 1).symm
  have hthird : BitVec.ofNat 16 ((a + 1).toNat + 1) = a + 2 := by bv_omega
  obtain ⟨⟨op, s₁⟩, h₀, h⟩ := bind_ok.mp h
  have hrow := encode_formatOf op
  cases hf : formatOf op with
  | f1 j =>
    simp only [hf] at h hrow
    cases h
    exact hrow 0 0 ▸ ⟨_, h₀, rfl⟩
  | f2 mk =>
    simp only [hf] at h hrow
    obtain ⟨⟨b, s₂⟩, h₁, h⟩ := bind_ok.mp h
    cases h
    exact hrow b 0 ▸ ⟨_, h₀, _, hsecond ▸ h₁, rfl⟩
  | f3 mk =>
    simp only [hf] at h hrow
    obtain ⟨⟨lo, s₂⟩, h₁, h⟩ := bind_ok.mp h
    obtain ⟨⟨hi, s₃⟩, h₂, h⟩ := bind_ok.mp h
    cases h
    have hbytes := hrow 0 (wordOf lo hi)
    simp only [Format.instr, Format.operandBytes, wordBytes, lowByte_wordOf, highByte_wordOf] at hbytes
    rw [hbytes]
    exact ⟨_, h₀, _, hsecond ▸ h₁, _, by rw [hsecond, hthird]; exact h₂, rfl⟩

theorem encode_ne_nil (i : Instr) : encode i ≠ [] := by
  intro h
  have hdecode := encodeRoundTrip i rfl []
  rw [h] at hdecode
  cases hdecode

theorem busRead_of_fetchAt {a : Word} {s u : State} {i : Instr} (h : fetchAt a s = .ok (i, u)) :
    ∃ v, busRead a s = .ok (opcodeOf i, v) := by
  have hreads := readsInTurn_of_fetchAt h
  unfold opcodeOf
  cases hbytes : encode i with
  | nil => exact absurd hbytes (encode_ne_nil i)
  | cons op bs =>
    rw [hbytes] at hreads
    obtain ⟨v, hv, -⟩ := hreads
    exact ⟨v, hv⟩

theorem exec_events {i : Instr} {s t : State} (h : exec i s = .next t) :
    t.events = if opcodeOf i ∈ unassignedRows.map Prod.fst then .diagnostic (opcodeOf i) :: s.events else s.events := by
  have hform := unassignedOpOf_form i
  simp only [List.contains_iff_mem] at hform
  split at hform
  · rename_i hmem
    rw [exec_unassigned (form_of_unassignedOp hform)] at h
    cases h
    rw [if_pos hmem]
    rfl
  · rename_i hmem
    rw [if_neg hmem]
    exact (exec_leaves hform h).events

/-- Settles O37: a CPU step ends as its accesses let it, and its instruction alone records an event. -/
theorem cpuStepOutcomes : Obligations.CpuStepOutcomes := by
  refine fun s => ⟨(cpuStep_outcome rfl).imp_left ?_, fun f hf => ?_, fun r hr => ?_⟩
  · rintro ⟨t, ht⟩
    obtain ⟨i, u, hu, he⟩ := cpuStep_next.mp ht
    obtain ⟨v, hv⟩ := busRead_of_fetchAt hu
    have hevents : u.events = s.events := by rw [fetchAt_frame hu]; rfl
    exact ⟨t, _, v, hv, ht, hevents ▸ exec_events he⟩
  · rcases step_outcome s with ⟨t, ht⟩ | ⟨a, ha, hns⟩
    · cases hf.symm.trans ht
    · cases hf.symm.trans ha
      exact ⟨a, rfl, hns⟩
  · rcases step_outcome s with ⟨t, ht⟩ | ⟨a, ha, -⟩
    · cases hr.symm.trans ht
    · cases hr.symm.trans ha

end Sys2Proof
end

section
/-! PROOFS. The calls of the platform, one step each: run-to-break (40_cpu_engine.md R152, R153), the debug ports that read memory (40_cpu_engine.md R176,
60_exceptions.md R461, R462), and the calls that are not the CPU's. -/

namespace Sys2Proof
open Machine Stated

/-! ## With other calls pending -/

section
variable {a : Word} {s u : State} (l : List Call)

theorem busRead_withSchedule {v : Byte} (h : busRead a s = .ok (v, u)) : busRead a (s.withSchedule l) = .ok (v, u.withSchedule l) := by
  rw [(Outside.withSchedule l).busRead, h, thenState]

theorem busRead_withSchedule_error {f : Fault} (h : busRead a s = .error f) : busRead a (s.withSchedule l) = .error f := by
  rw [(Outside.withSchedule l).busRead, h, thenState]

theorem fetchAt_withSchedule_error {f : Fault} (h : fetchAt a s = .error f) : fetchAt a (s.withSchedule l) = .error f := by
  rw [(Outside.withSchedule l).fetchAt, h, thenState]

end

theorem step_eq_perform {s : State} {c : Call} {rest : List Call} (h : s.schedule = c :: rest) :
    step s = perform c (s.withSchedule rest) := step_call h

/-! ## The calls that are not the CPU's -/

theorem probeValue_probes (s : State) : ∀ p ∈ probes s, ∀ l, probeValue p.1 (s.withSchedule l) = .ok (p.2, s.withSchedule l) := by
  simp only [probes, List.forall_mem_cons]
  exact ⟨fun _ => rfl, fun _ => rfl, fun _ => rfl, fun _ => rfl, fun _ => rfl, fun _ => rfl, fun _ => rfl, fun _ => rfl, fun _ => rfl,
    fun _ => rfl, fun _ => rfl, fun _ => rfl, fun _ => rfl, fun _ h => nomatch h⟩

/-- Settles O47: each call is one operation of the TIA or a record, by its arm of `perform`. -/
theorem otherCallsLeaveTheCpu : Obligations.OtherCallsLeaveTheCpu := by
  refine fun s rest => ⟨step_call, step_call, fun _ => step_call, fun _ _ => step_call, fun _ => step_call, fun p hp hs => ?_, step_call⟩
  rw [step_eq_perform hs, perform, probeValue_probes s p hp rest]
  rfl

/-! ## The debug ports -/

theorem step_disassemble {s t : State} {addr : Word} {rest : List Call} {i : Instr} (hs : s.schedule = .disassembleStep addr :: rest)
    (h : fetchAt addr s = .ok (i, t)) :
    step s = .next { t with schedule := rest, events := .disassembled addr i :: s.events } := by
  have hevents : t.events = s.events := by rw [fetchAt_frame h]; rfl
  rw [step_eq_perform hs, perform, fetchAt_withSchedule rest h, ← hevents]
  rfl

theorem step_disassemble_error {s : State} {addr : Word} {rest : List Call} {f : Fault} (hs : s.schedule = .disassembleStep addr :: rest)
    (h : fetchAt addr s = .error f) : step s = .fault f := by
  rw [step_eq_perform hs, perform, fetchAt_withSchedule_error rest h]

theorem step_inspect_memory {s t : State} {addr : Word} {rest : List Call} {v : Byte} (hs : s.schedule = .inspect (.m addr) :: rest)
    (h : busRead addr s = .ok (v, t)) :
    step s = .next { t with schedule := rest, events := .inspected (.m addr) v.toNat :: s.events } := by
  have hevents : t.events = s.events := by rw [busRead_frame h]; rfl
  have hprobe : probeValue (.m addr) (s.withSchedule rest) = .ok (v.toNat, t.withSchedule rest) :=
    bind_ok.mpr ⟨_, busRead_withSchedule rest h, rfl⟩
  rw [step_eq_perform hs, perform, hprobe, ← hevents]
  rfl

theorem step_inspect_memory_error {s : State} {addr : Word} {rest : List Call} {f : Fault} (hs : s.schedule = .inspect (.m addr) :: rest)
    (h : busRead addr s = .error f) : step s = .fault f := by
  have hprobe : probeValue (.m addr) (s.withSchedule rest) = .error f := bind_error.mpr (.inl (busRead_withSchedule_error rest h))
  rw [step_eq_perform hs, perform, hprobe]

/-- Settles O41: a disassembly is the fetch of an instruction, a memory probe is a read. -/
theorem debugPortsReadMemory : Obligations.DebugPortsReadMemory := by
  refine fun s addr rest => ⟨fun hs => ⟨fun bs i t hdecode hreads => ?_, fun f h => ?_,
    fun op s₁ h₀ hsize => ⟨fun f h => ?_, fun b s₂ f h₁ hsize h => ?_⟩⟩,
    fun hs => ⟨fun v t h => ⟨step_inspect_memory hs h, busRead_frame h⟩, fun f h => ?_⟩⟩
  · have hfetch := fetchAt_of_readsInTurn hdecode hreads
    exact ⟨step_disassemble hs hfetch, fetchAt_frame hfetch⟩
  · exact step_disassemble_error hs (fetchAt_of_opcode_error ((busRead_names h).1 ▸ h))
  · exact step_disassemble_error hs (fetchAt_of_second_error h₀ hsize ((busRead_names h).1 ▸ h))
  · exact step_disassemble_error hs (fetchAt_of_third_error h₀ h₁ hsize ((busRead_names h).1 ▸ h))
  · exact step_inspect_memory_error hs ((busRead_names h).1 ▸ h)

/-! ## One pass of a run-to-break -/

section
variable {s u : State} {op : Byte} {left : Option Nat} {rest : List Call} (hs : s.schedule = .continueRun left :: rest)
include hs

theorem step_continueRun : step s = runPass left (s.withSchedule rest) := step_eq_perform hs

theorem step_continueRun_error {f : Fault} (h : busRead s.cpu.ip s = .error f) : step s = .fault f := by
  rw [step_continueRun hs, runPass, show (s.withSchedule rest).cpu.ip = s.cpu.ip from rfl, busRead_withSchedule_error rest h]

theorem step_continueRun_of_peek (h : busRead s.cpu.ip s = .ok (op, u)) :
    step s = if op = 0 then .next { u with schedule := rest, events := .breakReached :: u.events }
      else if left = some 0 then .next { u with schedule := rest, events := .limitReached :: u.events }
      else cpuStep { u with schedule := .continueRun (left.map (· - 1)) :: rest } := by
  rw [step_continueRun hs, runPass, show (s.withSchedule rest).cpu.ip = s.cpu.ip from rfl, busRead_withSchedule rest h]
  rfl

end

theorem step_runToBreak {s : State} {start : Option Word} {rest : List Call} (hs : s.schedule = .runToBreak start :: rest) :
    step s = step { s with cpu := { s.cpu with ip := start.getD s.cpu.ip }, schedule := .continueRun s.cfg.runStepLimit :: rest } := by
  rw [step_call hs, step_call rfl]
  cases start <;> rfl

/-- Settles O45: by the tests of a pass, in their order. -/
theorem runToBreakPass : Obligations.RunToBreakPass := by
  refine fun s rest => ⟨fun left hs => ⟨fun f h => step_continueRun_error hs h, fun op u h => ?_⟩, fun start hs => step_runToBreak hs⟩
  rw [step_continueRun_of_peek hs h]
  exact ⟨fun hop => if_pos hop, fun hop hleft => by rw [if_neg hop, if_pos hleft], fun hop hleft => by rw [if_neg hop, if_neg hleft]⟩

/-! ## A whole run-to-break -/

theorem cpuRun_succ {n : Nat} {s t : State} : cpuRun (n + 1) s = .next t ↔ ∃ u, cpuStep s = .next u ∧ cpuRun n u = .next t := by
  rw [cpuRun]
  cases cpuStep s <;> simp

/-- A pass whose peek is in storage. -/
theorem step_pass_of_peek {s : State} {op : Byte} (left : Option Nat) (hpeek : busRead s.cpu.ip s = .ok (op, s)) :
    step (s.withSchedule [.continueRun left]) =
      if op = 0 then .next { s with schedule := [], events := .breakReached :: s.events }
      else if left = some 0 then .next { s with schedule := [], events := .limitReached :: s.events }
      else cpuStep (s.withSchedule [.continueRun (left.map (· - 1))]) :=
  step_continueRun_of_peek (s := s.withSchedule [.continueRun left]) (u := s.withSchedule [.continueRun left]) (rest := []) rfl (busRead_withSchedule _ hpeek)

/-- A pass whose peek is in storage and neither the break nor at the limit is one CPU step. -/
theorem step_pass {s u : State} {op : Byte} {left : Option Nat} (hpeek : busRead s.cpu.ip s = .ok (op, s)) (hop : op ≠ 0)
    (hleft : left ≠ some 0) (hstep : cpuStep s = .next u) :
    step (s.withSchedule [.continueRun left]) = .next (u.withSchedule [.continueRun (left.map (· - 1))]) := by
  rw [step_pass_of_peek left hpeek, if_neg hop, if_neg hleft]
  exact cpuStep_withSchedule _ hstep

/-- Through CPU steps that meet no break and no limit, and one more pass after them. -/
theorem runsTo_passes {n : Nat} {s t v : State} {left : Option Nat} (hrun : cpuRun n s = .next t)
    (hpeeks : ∀ k, k < n → ∃ u op, cpuRun k s = .next u ∧ busRead u.cpu.ip u = .ok (op, u) ∧ op ≠ 0)
    (hleft : ∀ l, left = some l → n ≤ l) (hlast : step (t.withSchedule [.continueRun (left.map (· - n))]) = .next v) :
    RunsTo (n + 1) (s.withSchedule [.continueRun left]) v := by
  induction n generalizing s left with
  | zero =>
    cases hrun
    simp only [Nat.sub_zero, Option.map_id'] at hlast
    exact runsTo_succ.mpr ⟨v, hlast, runsTo_zero.mpr rfl⟩
  | succ n ih =>
    obtain ⟨u, hstep, hrun⟩ := cpuRun_succ.mp hrun
    obtain ⟨_, op, hzero, hpeek, hop⟩ := hpeeks 0 n.succ_pos
    cases hzero
    refine runsTo_succ.mpr ⟨_, step_pass hpeek hop (fun h => absurd (hleft 0 h) (by omega)) hstep, ?_⟩
    refine ih hrun (fun k hk => ?_) (fun l hl => ?_) ?_
    · obtain ⟨w, op, hw, hread⟩ := hpeeks (k + 1) (Nat.succ_lt_succ hk)
      obtain ⟨u', hstep', hw⟩ := cpuRun_succ.mp hw
      cases hstep.symm.trans hstep'
      exact ⟨w, op, hw, hread⟩
    · obtain ⟨m, rfl, rfl⟩ := Option.map_eq_some_iff.mp hl
      have hm := hleft m rfl
      omega
    · have hcount : (left.map (· - 1)).map (· - n) = left.map (· - (n + 1)) := by
        rw [Option.map_map]
        exact congrArg (left.map ·) (funext fun l => by rw [Function.comp_apply, Nat.sub_sub, Nat.add_comm])
      rwa [hcount]

/-- A run-to-break from where the CPU is takes its limit from the configuration. -/
theorem runsTo_runToBreak {n : Nat} {s v : State} (h : RunsTo (n + 1) (s.withSchedule [.continueRun s.cfg.runStepLimit]) v) :
    RunsTo (n + 1) { s with schedule := [.runToBreak none] } v := by
  obtain ⟨u, hstep, hrun⟩ := runsTo_succ.mp h
  exact runsTo_succ.mpr ⟨u, (step_runToBreak (start := none) (rest := []) rfl).trans hstep, hrun⟩

/-- Settles O46: the passes follow the CPU's steps, and the last one finds the break, or no steps left. -/
theorem runToBreakEndsAtFirstBreak : Obligations.RunToBreakEndsAtFirstBreak := by
  refine fun n s t op _ hrun hpeeks hpeek => ⟨fun hop hlimit => ?_, fun hop hlimit => ?_⟩
  · refine runsTo_runToBreak (runsTo_passes hrun hpeeks hlimit ?_)
    rw [step_pass_of_peek _ hpeek, if_pos hop]
  · refine runsTo_runToBreak (runsTo_passes hrun hpeeks (fun l hl => ?_) ?_)
    · rw [hlimit] at hl
      exact (Option.some.inj hl).le
    · have hleft : s.cfg.runStepLimit.map (· - n) = some 0 := by rw [hlimit, Option.map_some, Nat.sub_self]
      rw [step_pass_of_peek _ hpeek, if_neg hop, if_pos hleft]

end Sys2Proof
end

section
/-! PROOFS. The transactions of an instruction (20_memory.md R74, decisions D6, D7): each shape with the accesses its effect makes, in order, from which come
the order seen through a script and the addresses at which memory may change. -/

namespace Sys2Proof
open Machine Stated

/-! ## Accesses in a row -/

/-- The state as an access sees it is the same: storage, script and configuration. -/
structure SameBus (s t : State) : Prop where
  mem : t.mem = s.mem
  bus : t.bus = s.bus
  cfg : t.cfg = s.cfg

/-- From `s` to `t` exactly these accesses are made, in this order. -/
inductive Does : List Access → State → State → Prop where
  | same {s t : State} (h : SameBus s t) : Does [] s t
  | read {a : Word} {v : Byte} {s t : State} (h : busRead a s = .ok (v, t)) : Does [.read a] s t
  | write {a : Word} {v : Byte} {s t : State} (h : busWrite a v s = .ok t) : Does [.write a v] s t
  | seq {l m : List Access} {s t u : State} (h : Does l s t) (k : Does m t u) : Does (l ++ m) s u

namespace Does
variable {l : List Access} {s t u : State}

theorem refl (s : State) : Does [] s s := same ⟨rfl, rfl, rfl⟩

theorem setReg (r : Reg) (v : Byte) (s : State) : Does [] s (s.setReg r v) :=
  same ⟨(OffBus.setReg r v).mem s, (OffBus.setReg r v).bus s, (OffBus.setReg r v).cfg s⟩

theorem thenSame (h : Does l s t) (k : SameBus t u) : Does l s u := List.append_nil l ▸ h.seq (same k)

theorem fromSame (k : Does l t u) (h : SameBus s t) : Does l s u := (same h).seq k

theorem cfg (h : Does l s t) : t.cfg = s.cfg := by
  induction h with
  | same h => exact h.cfg
  | read h => exact (Kept.bus (busRead_frame h)).cfg
  | write h => exact (Kept.busWrite h).cfg
  | seq _ _ ih ik => exact ik.trans ih

/-- Through a script each access takes one answer and goes on record. -/
theorem asks (h : Does l s t) (hs : OnScript s) : Asks l s t := by
  induction h with
  | same h => exact ⟨h.bus ▸ rfl, h.bus ▸ rfl⟩
  | read h =>
    rcases busRead_ok.mp h with ⟨hr, -⟩ | ⟨-, h⟩
    · rw [hs] at hr
      cases hr
    · obtain ⟨-, rest, hscript, rfl⟩ := askScript_ok.mp h
      exact ⟨rfl, by rw [hscript]; rfl⟩
  | write h =>
    rcases busWrite_ok.mp h with ⟨hw, -⟩ | ⟨-, w, h⟩
    · rw [hs] at hw
      cases hw
    · obtain ⟨-, rest, hscript, rfl⟩ := askScript_ok.mp h
      exact ⟨rfl, by rw [hscript]; rfl⟩
  | @seq l m s t u h k ih ik =>
    obtain ⟨hasked, hscript⟩ := ih hs
    obtain ⟨kasked, kscript⟩ := ik (by rw [OnScript, h.cfg]; exact hs)
    refine ⟨?_, ?_⟩
    · rw [kasked, hasked, List.reverse_append, List.append_assoc]
    · rw [kscript, hscript, List.drop_drop, List.length_append, Nat.add_comm]

/-- Memory keeps every byte no write is at. -/
theorem mem_read (h : Does l s t) {a : Nat} (ha : ∀ w v, .write w v ∈ l → a ≠ w.toNat) : t.mem.read a = s.mem.read a := by
  induction h with
  | same h => rw [h.mem]
  | read h => rw [busRead_frame h]; rfl
  | @write w v s t h =>
    rcases busWrite_frame h with rfl | h
    · exact Memory.read_write_other _ _ (ha w v (List.mem_singleton.mpr rfl)).symm
    · rw [h]; rfl
  | seq _ _ ih ik =>
    exact (ik fun w v hm => ha w v (List.mem_append_right _ hm)).trans (ih fun w v hm => ha w v (List.mem_append_left _ hm))

/-- And with no write at all it is the same. -/
theorem mem_eq (h : Does l s t) (hl : ∀ w v, .write w v ∉ l) : t.mem = s.mem := by
  induction h with
  | same h => exact h.mem
  | read h => rw [busRead_frame h]; rfl
  | @write w v s t h => exact absurd (List.mem_singleton.mpr rfl) (hl w v)
  | seq _ _ ih ik =>
    exact (ik fun w v hm => hl w v (List.mem_append_right _ hm)).trans (ih fun w v hm => hl w v (List.mem_append_left _ hm))

theorem pair {lo hi w : Word} (h : readPair lo hi s = .ok (w, t)) : Does [.read lo, .read hi] s t := by
  obtain ⟨l, x, u, hl, hh, -⟩ := readPair_ok.mp h
  exact (read hl).seq (read hh)

/-- Working out an address reads its pointer. -/
theorem address {m : MemOperand} {r : Word × Bool} (h : m.address s = .ok (r, t)) : Does (pointerReads s m) s t := by
  cases m with
  | zp | zpx | zpy | abs | abx | aby => cases h; exact refl _
  | izx b =>
    obtain ⟨⟨w, u⟩, hw, h⟩ := bind_ok.mp h
    cases h
    have hpair := pair hw
    rw [zext_eq_ofNat, pointerHigh_eq_ofNat, BitVec.toNat_add] at hpair
    exact hpair
  | izy b =>
    obtain ⟨⟨w, u⟩, hw, h⟩ := bind_ok.mp h
    cases h
    have hpair := pair hw
    rw [zext_eq_ofNat, pointerHigh_eq_ofNat] at hpair
    exact hpair

theorem push {v : Byte} (h : Machine.push v s = .ok t) : Does [.write (stackByte s s.cpu.sp) v] s t := by
  obtain ⟨u, hu, rfl⟩ := push_ok.mp h
  rw [stackAddr_eq_stackByte] at hu
  exact (write hu).seq (setReg _ _ u)

theorem pull {v : Byte} (h : Machine.pull s = .ok (v, t)) : Does [.read (stackByte s (s.cpu.sp + 1))] s t := by
  have hread := Does.read h
  rw [stackAddr_eq_stackByte] at hread
  exact (setReg .sp (s.cpu.sp + 1) s).seq hread

theorem readsInTurn {a : Word} {bs : List Byte} (h : ReadsInTurn a bs s t) :
    Does ((List.range bs.length).map fun k => .read (BitVec.ofNat 16 (a.toNat + k))) s t := by
  induction bs generalizing a s with
  | nil => exact h ▸ refl s
  | cons b bs ih =>
    obtain ⟨u, hu, h⟩ := h
    have hfirst : BitVec.ofNat 16 (a.toNat + 0) = a := by simp
    rw [List.length_cons, List.range_succ_eq_map, List.map_cons, hfirst, List.map_map]
    refine (read hu).seq ?_
    have hrest : (fun k => Access.read (BitVec.ofNat 16 (a.toNat + k))) ∘ Nat.succ =
        fun k => .read (BitVec.ofNat 16 ((BitVec.ofNat 16 (a.toNat + 1)).toNat + k)) :=
      funext fun k => congrArg Access.read (by rw [← add_eq_ofNat, ← add_eq_ofNat, ← add_eq_ofNat]; bv_omega)
    exact hrest ▸ ih h

end Does

/-! ## The accesses of a shape -/

/-- The accesses of an operand read: its pointer, then the byte. -/
def OperandAccesses (s : State) (l : List Access) : ReadOperand → Prop
  | .imm _ => l = []
  | .mem m => ∃ ea crossed u, m.address s = .ok ((ea, crossed), u) ∧ l = pointerReads s m ++ [.read ea]

/-- The accesses the effect of a shape makes, in order. -/
def AccessesOf (s : State) (l : List Access) : Form → Prop
  | .load _ _ o | .arith _ _ o | .compareReg _ _ o | .logic _ _ o | .bitTest _ o => OperandAccesses s l o
  | .store _ _ m => ∃ ea crossed u v, m.address s = .ok ((ea, crossed), u) ∧ l = pointerReads s m ++ [.write ea v]
  | .modifyMem _ _ m =>
    ∃ ea crossed u v, m.address s = .ok ((ea, crossed), u) ∧ l = pointerReads s m ++ [.read ea, .write ea v]
  | .jumpIndirect _ w =>
    l = [.read w, .read (if s.cfg.jmpIndPageBug then wordOf (lowByte w + 1) (highByte w) else w + 1)]
  | .call _ _ => ∃ hi lo, l = [.write (stackByte s s.cpu.sp) hi, .write (stackByte s (s.cpu.sp - 1)) lo]
  | .returnSub _ => l = [.read (stackByte s (s.cpu.sp + 1)), .read (stackByte s (s.cpu.sp + 2))]
  | .returnInt _ => l = [1, 2, 3].map fun k => .read (stackByte s (s.cpu.sp + k))
  | .pushByte _ _ => ∃ v, l = [.write (stackByte s s.cpu.sp) v]
  | .pullA _ | .pullP _ => l = [.read (stackByte s (s.cpu.sp + 1))]
  | .transfer _ _ _ | .transferToSp _ | .countReg _ _ _ | .modifyAcc _ _ | .nop _ | .jump _ _ | .breakMark _ | .branch _ _ _ _
  | .writeFlag _ _ _ | .unassigned _ => l = []

theorem does_operand {o : ReadOperand} {s t : State} {r : Byte × Nat} (h : o.read s = .ok (r, t)) :
    ∃ l, OperandAccesses s l o ∧ Does l s t := by
  cases o with
  | imm v => cases h; exact ⟨[], rfl, .refl _⟩
  | mem m =>
    obtain ⟨v, extra⟩ := r
    obtain ⟨ea, crossed, u, ha, hr, -⟩ := ReadOperand.read_mem_ok.mp h
    exact ⟨_, ⟨ea, crossed, u, ha, rfl⟩, (Does.address ha).seq (.read hr)⟩

theorem sp_of_push {v : Byte} {s t : State} (h : push v s = .ok t) : t.cpu.sp = s.cpu.sp - 1 := by
  obtain ⟨u, hu, rfl⟩ := push_ok.mp h
  rw [← busWrite_cpu hu]
  rfl

theorem sp_of_pull {v : Byte} {s t : State} (h : pull s = .ok (v, t)) : t.cpu.sp = s.cpu.sp + 1 := by
  rw [busRead_cpu h]
  rfl

/-- The two bytes of a pulled word. -/
theorem Does.pullWord {w : Word} {s t : State} (h : Machine.pullWord s = .ok (w, t)) :
    Does [.read (stackByte s (s.cpu.sp + 1)), .read (stackByte s (s.cpu.sp + 2))] s t := by
  obtain ⟨lo, hi, u, hlo, hhi, -⟩ := pullWord_ok.mp h
  have hsecond := Does.pull hhi
  rw [stackByte_congr (Kept.pull hlo).cfg, sp_of_pull hlo, BitVec.add_assoc] at hsecond
  exact (Does.pull hlo).seq hsecond

theorem sameBus_subFromA (m : Byte) (s : State) : SameBus s (subFromA m s) := by
  rw [State.subFromA_eq]
  split <;> exact ⟨rfl, rfl, rfl⟩

/-- The effect of a shape makes its accesses. -/
theorem does_effect (φ : Form) {s u : State} {extra : Nat} (h : φ.effect s = .ok (u, extra)) :
    ∃ l, AccessesOf s l φ ∧ Does l s u := by
  cases φ with
  | load r c o | compareReg r c o | bitTest c o | logic op c o =>
    obtain ⟨⟨⟨m, e⟩, t⟩, ht, h⟩ := bind_ok.mp h
    cases h
    obtain ⟨l, hl, hdoes⟩ := does_operand ht
    exact ⟨l, hl, hdoes.thenSame ⟨by simp, by simp, by simp⟩⟩
  | arith sub c o =>
    obtain ⟨⟨⟨m, e⟩, t⟩, ht, h⟩ := bind_ok.mp h
    obtain ⟨l, hl, hdoes⟩ := does_operand ht
    refine ⟨l, hl, hdoes.thenSame ?_⟩
    cases sub with
    | true =>
      cases h
      exact sameBus_subFromA m t
    | false =>
      cases h
      exact ⟨rfl, rfl, rfl⟩
  | store r c m =>
    obtain ⟨⟨⟨ea, x⟩, t⟩, ht, h⟩ := bind_ok.mp h
    obtain ⟨v, hv, h⟩ := bind_ok.mp h
    cases h
    exact ⟨_, ⟨ea, x, t, _, ht, rfl⟩, (Does.address ht).seq (.write hv)⟩
  | modifyMem op c m =>
    obtain ⟨⟨⟨ea, x⟩, t⟩, ht, h⟩ := bind_ok.mp h
    obtain ⟨⟨v, t'⟩, hv, h⟩ := bind_ok.mp h
    obtain ⟨w, hw, h⟩ := bind_ok.mp h
    cases h
    exact ⟨_, ⟨ea, x, t, _, ht, rfl⟩, (Does.address ht).seq (((Does.read hv).seq (.write hw)).thenSame ⟨rfl, rfl, rfl⟩)⟩
  | transfer q r c | countReg r k c | modifyAcc op c =>
    cases h
    exact ⟨[], rfl, .same ⟨by simp, by simp, by simp⟩⟩
  | transferToSp c =>
    cases h
    refine ⟨[], rfl, .same ?_⟩
    dsimp only
    split <;> exact ⟨rfl, rfl, rfl⟩
  | nop c | jump c w | breakMark c | writeFlag f v c | unassigned op =>
    cases h
    exact ⟨[], rfl, .same ⟨rfl, rfl, rfl⟩⟩
  | jumpIndirect c w =>
    obtain ⟨⟨w, t⟩, ht, h⟩ := bind_ok.mp h
    cases h
    exact ⟨_, rfl, (Does.pair ht).thenSame ⟨rfl, rfl, rfl⟩⟩
  | call c w =>
    obtain ⟨t, ht, h⟩ := bind_ok.mp h
    obtain ⟨t', ht', h⟩ := bind_ok.mp h
    cases h
    have hsecond := Does.push ht'
    rw [stackByte_congr (Kept.push ht).cfg, sp_of_push ht] at hsecond
    exact ⟨_, ⟨_, _, rfl⟩, ((Does.push ht).seq hsecond).thenSame ⟨rfl, rfl, rfl⟩⟩
  | returnSub c =>
    obtain ⟨⟨w, t⟩, ht, h⟩ := bind_ok.mp h
    cases h
    exact ⟨_, rfl, (Does.pullWord ht).thenSame ⟨rfl, rfl, rfl⟩⟩
  | returnInt c =>
    obtain ⟨⟨p, t⟩, ht, h⟩ := bind_ok.mp h
    obtain ⟨⟨w, t'⟩, ht', h⟩ := bind_ok.mp h
    cases h
    have hword := Does.pullWord ht'
    have hcfg : (t.modifyP fun _ => p).cfg = s.cfg := (Kept.pull ht).cfg
    have hsp : (t.modifyP fun _ => p).cpu.sp = s.cpu.sp + 1 := (sp_of_pull ht : t.cpu.sp = _)
    rw [stackByte_congr hcfg, stackByte_congr hcfg, hsp, BitVec.add_assoc, BitVec.add_assoc] at hword
    exact ⟨_, rfl, ((Does.pull ht).seq (hword.fromSame ⟨rfl, rfl, rfl⟩)).thenSame ⟨rfl, rfl, rfl⟩⟩
  | branch g want c d =>
    simp only [Form.effect] at h
    split at h <;> cases h <;> exact ⟨[], rfl, .same ⟨rfl, rfl, rfl⟩⟩
  | pushByte c v =>
    obtain ⟨t, ht, h⟩ := bind_ok.mp h
    cases h
    exact ⟨_, ⟨_, rfl⟩, Does.push ht⟩
  | pullA c | pullP c =>
    obtain ⟨⟨v, t⟩, ht, h⟩ := bind_ok.mp h
    cases h
    exact ⟨_, rfl, (Does.pull ht).thenSame ⟨by simp, by simp, by simp⟩⟩

/-- What is accessed does not depend on NIP. -/
theorem address_of_setNip {m : MemOperand} {s u : State} {w : Word} {r : Word × Bool} (h : m.address (s.setNip w) = .ok (r, u)) :
    ∃ v, m.address s = .ok (r, v) := by
  rw [(Unseen.setNip w).address] at h
  cases ha : m.address s with
  | ok p =>
    rw [ha] at h
    cases h
    exact ⟨p.2, rfl⟩
  | error f =>
    rw [ha] at h
    cases h

theorem pointerReads_setNip (m : MemOperand) (w : Word) (s : State) : pointerReads (s.setNip w) m = pointerReads s m := by
  cases m <;> rfl

theorem operandAccesses_of_setNip {o : ReadOperand} {s : State} {w : Word} {l : List Access}
    (h : OperandAccesses (s.setNip w) l o) : OperandAccesses s l o := by
  cases o with
  | imm v => exact h
  | mem m =>
    obtain ⟨ea, crossed, u, ha, rfl⟩ := h
    obtain ⟨v, hv⟩ := address_of_setNip ha
    exact ⟨ea, crossed, v, hv, by rw [pointerReads_setNip]⟩

theorem accessesOf_of_setNip {φ : Form} {s : State} {w : Word} {l : List Access} (h : AccessesOf (s.setNip w) l φ) :
    AccessesOf s l φ := by
  cases φ with
  | load | arith | compareReg | logic | bitTest => exact operandAccesses_of_setNip h
  | store | modifyMem =>
    obtain ⟨ea, crossed, u, v, ha, rfl⟩ := h
    obtain ⟨u', hu'⟩ := address_of_setNip ha
    exact ⟨ea, crossed, u', v, hu', by rw [pointerReads_setNip]⟩
  | _ => exact h

/-- An instruction that answers made the accesses of its shape. -/
theorem does_exec {i : Instr} {s t : State} (h : exec i s = .next t) : ∃ l, AccessesOf s l (Form.of i) ∧ Does l s t := by
  obtain ⟨u, extra, he, rfl⟩ := exec_next.mp h
  obtain ⟨l, hl, hdoes⟩ := does_effect _ he
  have hfrom : Does l s u := hdoes.fromSame ⟨rfl, rfl, rfl⟩
  exact ⟨l, accessesOf_of_setNip hl, hfrom.thenSame ⟨rfl, rfl, rfl⟩⟩

/-! ## Where memory may change -/

/-- The addresses a shape stores to, from the state it starts in. -/
def storedBy (s : State) : Form → List Word
  | .store _ _ m | .modifyMem _ _ m =>
    match m.address s with
    | .ok ((ea, _), _) => [ea]
    | .error _ => []
  | .pushByte _ _ => [stackByte s s.cpu.sp]
  | .call _ _ => [stackByte s s.cpu.sp, stackByte s (s.cpu.sp - 1)]
  | _ => []

theorem storedAddresses_eq (i : Instr) (s : State) : storedAddresses i s = storedBy s (Form.of i) := by
  cases i <;> rfl

theorem pointerReads_no_write (s : State) (m : MemOperand) (a : Word) (v : Byte) : .write a v ∉ pointerReads s m := by
  cases m <;> simp [pointerReads]

/-- What is written is at the addresses the shape stores to. -/
theorem mem_storedBy_of_write {φ : Form} {s : State} {l : List Access} (hl : AccessesOf s l φ) {a : Word} {v : Byte}
    (h : .write a v ∈ l) : a ∈ storedBy s φ := by
  cases φ with
  | load r c o | compareReg r c o | bitTest c o | logic op c o | arith sub c o =>
    cases o with
    | imm v =>
      cases hl
      cases h
    | mem m =>
      obtain ⟨ea, crossed, u, -, rfl⟩ := hl
      simp [pointerReads_no_write] at h
  | store r c m | modifyMem op c m =>
    obtain ⟨ea, crossed, u, w, ha, rfl⟩ := hl
    simp_all [pointerReads_no_write, storedBy]
  | call c w =>
    obtain ⟨hi, lo, rfl⟩ := hl
    simp only [List.mem_cons, Access.write.injEq, List.not_mem_nil, or_false] at h
    simp only [storedBy, List.mem_cons, List.not_mem_nil, or_false]
    exact h.imp And.left And.left
  | pushByte c w =>
    obtain ⟨w, rfl⟩ := hl
    simp_all [storedBy]
  | jumpIndirect | returnSub | returnInt | pullA | pullP =>
    cases hl
    simp at h
  | transfer | transferToSp | countReg | modifyAcc | nop | jump | breakMark | branch | writeFlag | unassigned =>
    cases hl
    cases h

/-- Settles O36: an instruction makes the accesses of its shape, and writes where that stores. -/
theorem memoryChangesOnlyWhereStored : Obligations.MemoryChangesOnlyWhereStored := by
  intro i s t h
  obtain ⟨l, hl, hdoes⟩ := does_exec h
  rw [storedAddresses_eq]
  refine ⟨fun a ha => hdoes.mem_read fun w v hw => ha w (mem_storedBy_of_write hl hw), fun hnone => hdoes.mem_eq fun w v hw => ?_⟩
  have hmem := mem_storedBy_of_write hl hw
  rw [hnone] at hmem
  cases hmem

/-! ## The order of transactions -/

/-- The operand a reading shape reads. -/
def readOperandOf : Form → Option ReadOperand
  | .load _ _ o | .arith _ _ o | .compareReg _ _ o | .logic _ _ o | .bitTest _ o => some o
  | _ => none

/-- The operand a storing shape stores to. -/
def storedOperandOf : Form → Option MemOperand
  | .store _ _ m => some m
  | _ => none

/-- The operand a modifying shape reads and stores to. -/
def modifiedOperandOf : Form → Option MemOperand
  | .modifyMem _ _ m => some m
  | _ => none

/-- Does the shape access no memory beyond the bytes of its instruction? -/
def isQuiet : Form → Bool
  | .transfer _ _ _ | .transferToSp _ | .countReg _ _ _ | .modifyAcc _ _ | .nop _ | .jump _ _ | .breakMark _ | .branch _ _ _ _
  | .writeFlag _ _ _ | .unassigned _ => true
  | _ => false

section
variable {φ : Form} {s : State} {l : List Access}

theorem operandAccesses_of_reading {o : ReadOperand} (hφ : readOperandOf φ = some o) (hl : AccessesOf s l φ) :
    OperandAccesses s l o := by
  unfold readOperandOf at hφ
  split at hφ <;> cases hφ <;> exact hl

theorem storeAccesses_of_storing {m : MemOperand} (hφ : storedOperandOf φ = some m) (hl : AccessesOf s l φ) :
    ∃ ea crossed u v, m.address s = .ok ((ea, crossed), u) ∧ l = pointerReads s m ++ [.write ea v] := by
  unfold storedOperandOf at hφ
  split at hφ <;> cases hφ
  exact hl

theorem modifyAccesses_of_modifying {m : MemOperand} (hφ : modifiedOperandOf φ = some m) (hl : AccessesOf s l φ) :
    ∃ ea crossed u v, m.address s = .ok ((ea, crossed), u) ∧ l = pointerReads s m ++ [.read ea, .write ea v] := by
  unfold modifiedOperandOf at hφ
  split at hφ <;> cases hφ
  exact hl

theorem no_accesses_of_isQuiet (hφ : isQuiet φ = true) (hl : AccessesOf s l φ) : l = [] := by
  cases φ with
  | transfer | transferToSp | countReg | modifyAcc | nop | jump | breakMark | branch | writeFlag | unassigned => exact hl
  | _ => cases hφ

end

/-! Two functions that agree on every row of a table give the same list, which evaluating the table shows. -/

theorem readRows_operand (b : Byte) (w : Word) : ∀ row ∈ readRows b w, readOperandOf (Form.of row.instr) = some row.operand :=
  List.map_inj_left.mp rfl

theorem storeRows_operand (b : Byte) (w : Word) : ∀ row ∈ storeRows b w, storedOperandOf (Form.of row.instr) = some row.operand :=
  List.map_inj_left.mp rfl

theorem modifyRows_operand (b : Byte) (w : Word) : ∀ row ∈ modifyRows b w, modifiedOperandOf (Form.of row.instr) = some row.operand :=
  List.map_inj_left.mp rfl

theorem modifyRows_no_pointer (b : Byte) (w : Word) (s : State) : ∀ row ∈ modifyRows b w, pointerReads s row.operand = [] :=
  List.map_inj_left.mp rfl

theorem quietMnemonics_isQuiet (i : Instr) : (!quietMnemonics.contains i.mnemonic || isQuiet (Form.of i)) = true := by
  cases i <;> rfl

theorem isQuiet_of_quiet {i : Instr} (h : Quiet i) : isQuiet (Form.of i) = true := by
  rcases h with hmnemonic | ⟨w, rfl⟩ | hacc | hunassigned
  · have hi := quietMnemonics_isQuiet i
    rwa [List.contains_iff_mem.mpr hmnemonic] at hi
  · rfl
  · revert i
    simp only [List.forall_mem_cons]
    exact ⟨rfl, rfl, rfl, rfl, fun _ h => nomatch h⟩
  · obtain ⟨row, hrow, rfl⟩ := List.mem_map.mp hunassigned
    rw [form_of_unassignedOp (unassignedRows_unassigned row hrow).2]
    rfl

/-- An instruction that answers through a script asks for the accesses of its shape. -/
theorem asks_exec {i : Instr} {s t : State} (hs : OnScript s) (h : exec i s = .next t) :
    ∃ l, AccessesOf s l (Form.of i) ∧ Asks l s t := by
  obtain ⟨l, hl, hdoes⟩ := does_exec h
  exact ⟨l, hl, hdoes.asks hs⟩

theorem cpuStep_asks {s t : State} (hs : OnScript s) (h : cpuStep s = .next t) :
    ∃ i u, Asks ((List.range (encode i).length).map fun k => .read (BitVec.ofNat 16 (s.cpu.ip.toNat + k))) s u ∧
      u = { s with bus := u.bus } ∧ exec i u = .next t := by
  obtain ⟨i, u, hu, he⟩ := cpuStep_next.mp h
  exact ⟨i, u, (Does.readsInTurn (readsInTurn_of_fetchAt hu)).asks hs, fetchAt_frame hu, he⟩

/-- Settles O39: the fetch reads the instruction's bytes in turn, and the effect makes the accesses of its shape. -/
theorem transactionOrder : Obligations.TransactionOrder := by
  intro s t hs
  refine ⟨cpuStep_asks hs, fun b w row hrow h => ?_, fun b w row hrow h => ?_, fun b w row hrow h => ?_, fun w hi hhi h => ?_,
    fun w h => ?_, fun h => ?_, fun h => ?_, fun i hi h => ?_, fun i hi h => ?_, fun i hi h => ?_⟩ <;>
    obtain ⟨l, hl, hasks⟩ := asks_exec hs h
  · have hoperand := operandAccesses_of_reading (readRows_operand b w row hrow) hl
    cases ho : row.operand with
    | imm v =>
      rw [ho] at hoperand
      exact hoperand ▸ hasks
    | mem m =>
      rw [ho] at hoperand
      obtain ⟨ea, crossed, u, ha, rfl⟩ := hoperand
      exact ⟨ea, crossed, u, ha, hasks⟩
  · obtain ⟨ea, crossed, u, v, ha, rfl⟩ := storeAccesses_of_storing (storeRows_operand b w row hrow) hl
    exact ⟨ea, crossed, u, v, ha, hasks⟩
  · obtain ⟨ea, crossed, u, v, ha, rfl⟩ := modifyAccesses_of_modifying (modifyRows_operand b w row hrow) hl
    rw [modifyRows_no_pointer b w s row hrow] at hasks
    exact ⟨ea, crossed, u, v, ha, hasks⟩
  · cases hl
    rwa [indirectHigh_eq_ofNat, ← hhi] at hasks
  · obtain ⟨hi, lo, rfl⟩ := hl
    exact ⟨hi, lo, hasks⟩
  · exact hl ▸ hasks
  · exact hl ▸ hasks
  · simp only [List.mem_cons, List.not_mem_nil, or_false] at hi
    obtain rfl | rfl := hi <;> obtain ⟨v, rfl⟩ := hl <;> exact ⟨v, hasks⟩
  · simp only [List.mem_cons, List.not_mem_nil, or_false] at hi
    obtain rfl | rfl := hi <;> exact hl ▸ hasks
  · rwa [no_accesses_of_isQuiet (isQuiet_of_quiet hi) hl] at hasks

end Sys2Proof
end
